-- ==== Sys2Proof/Word.lean ====
section
/-! DEFINITION. The words of the machine (00_scope.md R8, R9) and the carrier of samples (R12). -/

namespace Sys2Proof

/-- A byte, the spec's `u8` (R9). -/
abbrev Byte := BitVec 8

/-- A 32-bit word, the spec's `u32` (R8). -/
abbrev Word := BitVec 32

/-- The carrier of samples of the machine that the host runs: a number that NAMES a value of `NUM.Sample` (R12). What it
stands for, and every operation on it, belongs to the open record NUM (`Config.num`, which has no body). The block
itself is defined for every carrier and every NUM (R7; `Machine.blockOver`); this carrier is plain data, which the host
asks of a state. DESIGN CHOICE (log 3). -/
structure Sample where
  /-- the name of the value -/
  code : Nat
  deriving DecidableEq, Repr, Inhabited

end Sys2Proof
end

