-- ==== Sys2Proof/Syntax.lean ====
section
/-! DEFINITION. The commands (30_encoding.md R87), their transactions (R80, R84), responses (R85, R86), and the
assembler's forms (R91, R92). Operand widths are carried by the types: A and B are 8 bits, a lane word 32 (R81). -/

namespace Sys2Proof

/-- The kinds of data lane (R80, R84). -/
inductive LaneKind where
  | none | u32 | sample
  deriving DecidableEq, Repr

/-- A data lane item (R80), over a carrier of samples. -/
inductive DataLane (α : Type := Sample) where
  | none
  | u32 (v : Word)
  | sample (x : α)
  deriving DecidableEq, Repr

/-- The kind of a lane item. -/
def DataLane.kind {α : Type} : DataLane α → LaneKind
  | .none => .none
  | .u32 _ => .u32
  | .sample _ => .sample

/-- What the host presents in one step: a command word and a data lane (R48, R80). -/
structure Transaction (α : Type := Sample) where
  /-- the 32-bit command word of R81 -/
  word : Word
  /-- the data lane -/
  data : DataLane α
  deriving DecidableEq, Repr

/-- The commands of R87, one constructor per row of the opcode table. -/
inductive Instr where
  /-- R100 -/
  | nop
  /-- R101 -/
  | reset
  /-- R102, B = register number -/
  | regRd (r : Byte)
  /-- R103, B = register number, lane u32 -/
  | regWr (r : Byte) (v : Word)
  /-- R104, B = sample register number -/
  | sregRd (r : Byte)
  /-- R124 -/
  | crcInit
  /-- R125, B = the byte -/
  | crcByte (b : Byte)
  /-- R126, lane u32 = the expected checksum -/
  | crcCheck (e : Word)
  /-- R143, A = address, B = byte -/
  | bufWr (a : Byte) (b : Byte)
  /-- R144, A = address -/
  | bufRd (a : Byte)
  /-- R145 -/
  | pktSeal
  /-- R146, lane u32 = number of received frame bytes -/
  | pktCheck (m : Word)
  /-- R175 -/
  | modStart
  /-- R176, B = the byte -/
  | modByte (b : Byte)
  /-- R177 -/
  | modEnd
  /-- R197 -/
  | demStart
  /-- R198, lane sample -/
  | demSample (x : Sample)
  /-- R199 -/
  | demEnd
  deriving DecidableEq, Repr

/-- The mnemonics of R87, without operands. -/
inductive Mnemonic where
  | nop | reset | regRd | regWr | sregRd
  | crcInit | crcByte | crcCheck
  | bufWr | bufRd | pktSeal | pktCheck
  | modStart | modByte | modEnd
  | demStart | demSample | demEnd
  deriving DecidableEq, Repr

/-- Why a transaction is no command, in the order R90 checks. Each answers ERR_ILLEGAL. -/
inductive DecodeError where
  /-- the opcode has no row (R88) -/
  | undefinedOpcode
  /-- RSV, bits 23:16, is not 0 (R82) -/
  | reservedNonzero
  /-- the row does not use A and bits 15:8 are not 0 (R83) -/
  | unusedANonzero
  /-- the row does not use B and bits 7:0 are not 0 (R83) -/
  | unusedBNonzero
  /-- the data lane has another kind than the row takes (R84) -/
  | wrongLane
  deriving DecidableEq, Repr

/-- The response codes of R86. The reserved codes have no constructor: they are never returned. -/
inductive RespCode where
  | ok
  | payloadTooLarge | framingError | integrityError
  | errIllegal | errArg | errState | errBusy | errConfig | errOverflow
  deriving DecidableEq, Repr

/-- The three classes of response codes (R220). -/
inductive RespClass where
  | success | verdict | error
  deriving DecidableEq, Repr

/-- What the block returns for a command (R85). -/
structure Response (α : Type := Sample) where
  /-- the response code -/
  code : RespCode
  /-- the response data -/
  data : DataLane α
  deriving DecidableEq, Repr

/-- The pseudo-instructions of R92. -/
inductive Pseudo where
  | config (fs br f0 f1 : Word)
  | crc32 (s : List Byte)
  | crcVerify (s : List Byte) (v : Word)
  | bufFill (a : Byte) (s : List Byte)
  | pktBuild (t : Byte) (q : Word) (p : List Byte)
  | pktVerify (f : List Byte)
  | modulate (s : List Byte)
  | demodulate (xs : List Sample)
  deriving DecidableEq, Repr

/-- An operand of an assembly line (R91): an integer in decimal or in hexadecimal, a register name, or a decimal literal
that is no integer. -/
inductive AsmOperand where
  | num (n : Nat)
  | hex (n : Nat)
  | name (s : String)
  | sample (x : Sample)
  deriving DecidableEq, Repr

/-- An assembly line (R91): a mnemonic and its operands in order. -/
structure AsmLine where
  /-- the mnemonic as R87 spells it -/
  mnemonic : String
  /-- the operands, in the order of R91 -/
  operands : List AsmOperand
  deriving DecidableEq, Repr

/-- Why an assembly line or a pseudo-instruction is an assembly error (R91, R92). -/
inductive AsmError where
  /-- the text is no line of R91's form -/
  | badText
  /-- the mnemonic is not one of R87 -/
  | unknownMnemonic
  /-- too few, too many or the wrong kind of operands -/
  | badOperands
  /-- a register name that R23 or R41 does not list -/
  | unknownRegister
  /-- an operand out of its field's range -/
  | outOfRange
  deriving DecidableEq, Repr

end Sys2Proof
end

