-- ==== Sys2Proof/Config.lean ====
section
/-! DEFINITION. The fixed constants (00_scope.md R5), the numerics record NUM (R7, R12) and the free values
that the spec leaves open. An `opaque` constant has no body, so no proof can use what it is. -/

namespace Sys2Proof

/-- The numerics record of R12. Its fields are total functions of their arguments alone. -/
structure Numerics (α : Type) where
  /-- intended value 0 -/
  zero : α
  /-- intended x + y -/
  add : α → α → α
  /-- intended x − y -/
  sub : α → α → α
  /-- intended x · y -/
  mul : α → α → α
  /-- intended x > y, strict -/
  gt : α → α → Bool
  /-- `tone f fs n`, intended 0.8 · sin(2π · f · n / fs) -/
  tone : Word → Word → Nat → α
  /-- `gcoeff k N`, intended 2 · cos(2π · k / N) -/
  gcoeff : Nat → Nat → α
  deriving Inhabited

namespace Config

/-- `PREAMBLE_BITS` (R5). -/
def preambleBits : Nat := 16
/-- `MAX_PAYLOAD` (R5). -/
def maxPayload : Nat := 245
/-- `HEADER_LEN` (R5). -/
def headerLen : Nat := 11
/-- `PBUF_SIZE` (R5, R44). -/
def pbufSize : Nat := 256
/-- `SPB_MAX` = 2^20 (R5). -/
def spbMax : Nat := 1048576
/-- `CRC_POLY`, reflected (R5, R120). -/
def crcPoly : Word := 0xEDB88320#32
/-- `CRC_INIT` (R5, R120). -/
def crcInit : Word := 0xFFFFFFFF#32
/-- `CRC_XOROUT` (R5, R120). -/
def crcXorOut : Word := 0xFFFFFFFF#32

/-- The OPEN parameter NUM of the machine (R7, R12, D4): any record of total functions. Free; safe (log 3). -/
opaque num : Numerics Sample

/-- The free value of R72: what the `n`-th read of an unwritten PBUF byte gives, at address `a`. Free; log 4. -/
opaque draw (n : Nat) (a : Byte) : Byte

/-- The sample a decimal literal of the assembler names (R91): sign, digits, number of digits after the point.
The spec does not say how a literal is turned into a `NUM.Sample`. Free; safe (log 10). -/
opaque sampleOfDecimal (negative : Bool) (digits : Nat) (scale : Nat) : Sample

/-- `tone` of NUM_F64, an OPEN function (R14). Free; safe (log 9). -/
opaque toneF64 : Word → Word → Nat → BitVec 64

/-- `gcoeff` of NUM_F64, an OPEN function (R14). Free; safe (log 9). -/
opaque gcoeffF64 : Nat → Nat → BitVec 64

/-- Sign (bit 51) and payload (bits 50:0) of the NaN that a NUM_F64 operation gives from two operands: the
spec names IEEE binary64 and says nothing of them. Free; that the operations share one function of the operands is a
DESIGN CHOICE (log 9). -/
opaque nanBits : BitVec 64 → BitVec 64 → BitVec 52

end Config
end Sys2Proof
end

