-- ==== Sys2Proof/WellFormed.lean ====
section
/-! DEFINITION. What is well formed. An `Instr` is well formed by its types (A and B are bytes, a lane word is 32
bits), so the checks are those the spec makes on what is NOT yet an instruction: a transaction (30_encoding.md
R82 to R84, R88, from the match and mask table that closes R87), a number of an assembly line (R91) and a
pseudo-instruction (R92). -/

namespace Sys2Proof

/-- A row of R87's match/mask table on the command word, with the data-lane kind the row takes. -/
structure OpRow where
  /-- the mnemonic as the table spells it -/
  mnemonic : String
  /-- the bits the row fixes, at their values -/
  value : Word
  /-- which bits the row fixes -/
  mask : Word
  /-- the data-lane kind taken (column "in") -/
  lane : LaneKind
  deriving DecidableEq, Repr

/-- The match/mask table of R87. -/
def opRows : List OpRow :=
  [ ⟨"NOP",        0x00000000, 0xFFFFFFFF, .none⟩,
    ⟨"RESET",      0x01000000, 0xFFFFFFFF, .none⟩,
    ⟨"REG_RD",     0x02000000, 0xFFFFFF00, .none⟩,
    ⟨"REG_WR",     0x03000000, 0xFFFFFF00, .u32⟩,
    ⟨"SREG_RD",    0x04000000, 0xFFFFFF00, .none⟩,
    ⟨"CRC_INIT",   0x10000000, 0xFFFFFFFF, .none⟩,
    ⟨"CRC_BYTE",   0x11000000, 0xFFFFFF00, .none⟩,
    ⟨"CRC_CHECK",  0x12000000, 0xFFFFFFFF, .u32⟩,
    ⟨"BUF_WR",     0x20000000, 0xFFFF0000, .none⟩,
    ⟨"BUF_RD",     0x21000000, 0xFFFF00FF, .none⟩,
    ⟨"PKT_SEAL",   0x22000000, 0xFFFFFFFF, .none⟩,
    ⟨"PKT_CHECK",  0x23000000, 0xFFFFFFFF, .u32⟩,
    ⟨"MOD_START",  0x30000000, 0xFFFFFFFF, .none⟩,
    ⟨"MOD_BYTE",   0x31000000, 0xFFFFFF00, .none⟩,
    ⟨"MOD_END",    0x32000000, 0xFFFFFFFF, .none⟩,
    ⟨"DEM_START",  0x40000000, 0xFFFFFFFF, .none⟩,
    ⟨"DEM_SAMPLE", 0x41000000, 0xFFFFFFFF, .sample⟩,
    ⟨"DEM_END",    0x42000000, 0xFFFFFFFF, .none⟩ ]

/-- The row whose opcode byte the transaction carries. -/
def Transaction.row {α : Type} (t : Transaction α) : Option OpRow :=
  opRows.find? fun r => r.value >>> 24 == t.word >>> 24

/-- The opcode has a row (R88). -/
def Transaction.opcodeDefined {α : Type} (t : Transaction α) : Bool := t.row.isSome

/-- RSV, bits 23:16, is 0 (R82). -/
def Transaction.reservedClear {α : Type} (t : Transaction α) : Bool := t.word &&& 0x00FF0000 == 0

/-- A, bits 15:8, is 0 where the row does not use it (R83). -/
def Transaction.unusedAClear {α : Type} (t : Transaction α) : Bool :=
  t.row.any fun r => t.word &&& r.mask &&& 0x0000FF00 == 0

/-- B, bits 7:0, is 0 where the row does not use it (R83). -/
def Transaction.unusedBClear {α : Type} (t : Transaction α) : Bool :=
  t.row.any fun r => t.word &&& r.mask &&& 0x000000FF == 0

/-- Every operand field the row does not use is 0 (R83). -/
def Transaction.unusedClear {α : Type} (t : Transaction α) : Bool := t.unusedAClear && t.unusedBClear

/-- The data lane has the kind the row takes (R84). -/
def Transaction.laneFits {α : Type} (t : Transaction α) : Bool := t.row.any fun r => t.data.kind == r.lane

/-- The transaction is a command: all four checks hold (R90). -/
def Transaction.wellFormed {α : Type} (t : Transaction α) : Bool :=
  t.opcodeDefined && t.reservedClear && t.unusedClear && t.laneFits

/-- A number fits an 8-bit operand field (R91: "a byte > 255, an address > 255" is an assembly error). -/
def fitsByte (n : Nat) : Bool := n < 256

/-- A number fits a 32-bit lane operand (R91). -/
def fitsWord (n : Nat) : Bool := n < 4294967296

/-- The size conditions of R92: BUF_FILL needs a + |s| ≤ 256, PKT_BUILD |p| ≤ 245, PKT_VERIFY |f| ≤ 256. -/
def Pseudo.wellFormed : Pseudo → Bool
  | .config _ _ _ _ => true
  | .crc32 _ => true
  | .crcVerify _ _ => true
  | .bufFill a s => a.toNat + s.length ≤ Config.pbufSize
  | .pktBuild _ _ p => p.length ≤ Config.maxPayload
  | .pktVerify f => f.length ≤ Config.pbufSize
  | .modulate _ => true
  | .demodulate _ => true

end Sys2Proof
end

