-- ==== Sys2Proof/Decode.lean ====
section
/-! DEFINITION. Decoding a transaction (30_encoding.md R90), total and rejecting by name, and the encoder.
A failure to decode is no stop of the machine: the step answers ERR_ILLEGAL (R82 to R84, R88). -/

namespace Sys2Proof

/-- OPC, bits 31:24 (R81). -/
def opcField (w : Word) : Byte := w.extractLsb' 24 8
/-- RSV, bits 23:16 (R81). -/
def rsvField (w : Word) : Byte := w.extractLsb' 16 8
/-- A, bits 15:8 (R81). -/
def aField (w : Word) : Byte := w.extractLsb' 8 8
/-- B, bits 7:0 (R81). -/
def bField (w : Word) : Byte := w.extractLsb' 0 8

/-- The OPC column of R87. -/
def Mnemonic.opcode : Mnemonic → Byte
  | .nop => 0x00 | .reset => 0x01 | .regRd => 0x02 | .regWr => 0x03 | .sregRd => 0x04
  | .crcInit => 0x10 | .crcByte => 0x11 | .crcCheck => 0x12
  | .bufWr => 0x20 | .bufRd => 0x21 | .pktSeal => 0x22 | .pktCheck => 0x23
  | .modStart => 0x30 | .modByte => 0x31 | .modEnd => 0x32
  | .demStart => 0x40 | .demSample => 0x41 | .demEnd => 0x42

/-- The row of an opcode; no other value has one (R87, R88). -/
def Mnemonic.ofOpcode (opc : Byte) : Option Mnemonic :=
  match opc.toNat with
  | 0x00 => some .nop | 0x01 => some .reset | 0x02 => some .regRd | 0x03 => some .regWr | 0x04 => some .sregRd
  | 0x10 => some .crcInit | 0x11 => some .crcByte | 0x12 => some .crcCheck
  | 0x20 => some .bufWr | 0x21 => some .bufRd | 0x22 => some .pktSeal | 0x23 => some .pktCheck
  | 0x30 => some .modStart | 0x31 => some .modByte | 0x32 => some .modEnd
  | 0x40 => some .demStart | 0x41 => some .demSample | 0x42 => some .demEnd
  | _ => none

/-- Column "A" of R87: the row uses operand field A. -/
def Mnemonic.usesA : Mnemonic → Bool
  | .bufWr | .bufRd => true
  | _ => false

/-- Column "B" of R87: the row uses operand field B. -/
def Mnemonic.usesB : Mnemonic → Bool
  | .regRd | .regWr | .sregRd | .crcByte | .bufWr | .modByte => true
  | _ => false

/-- Column "in" of R87: the data-lane kind taken. -/
def Mnemonic.laneIn : Mnemonic → LaneKind
  | .regWr | .crcCheck | .pktCheck => .u32
  | .demSample => .sample
  | _ => .none

/-- Column "out" of R87: the kind of the response data when the code is OK. -/
def Mnemonic.laneOut : Mnemonic → LaneKind
  | .regRd | .crcCheck | .bufRd | .pktSeal | .pktCheck => .u32
  | .sregRd => .sample
  | _ => .none

/-- The command of a row with its operands; the lane's item has the row's kind, or the lane is wrong. -/
def buildInstr (m : Mnemonic) (a b : Byte) (data : DataLane) : Except DecodeError Instr :=
  match m, data with
  | .nop, _ => .ok .nop
  | .reset, _ => .ok .reset
  | .regRd, _ => .ok (.regRd b)
  | .regWr, .u32 v => .ok (.regWr b v)
  | .regWr, _ => .error .wrongLane
  | .sregRd, _ => .ok (.sregRd b)
  | .crcInit, _ => .ok .crcInit
  | .crcByte, _ => .ok (.crcByte b)
  | .crcCheck, .u32 e => .ok (.crcCheck e)
  | .crcCheck, _ => .error .wrongLane
  | .bufWr, _ => .ok (.bufWr a b)
  | .bufRd, _ => .ok (.bufRd a)
  | .pktSeal, _ => .ok .pktSeal
  | .pktCheck, .u32 n => .ok (.pktCheck n)
  | .pktCheck, _ => .error .wrongLane
  | .modStart, _ => .ok .modStart
  | .modByte, _ => .ok (.modByte b)
  | .modEnd, _ => .ok .modEnd
  | .demStart, _ => .ok .demStart
  | .demSample, .sample x => .ok (.demSample x)
  | .demSample, _ => .error .wrongLane
  | .demEnd, _ => .ok .demEnd

/-- The checks of R90: opcode, RSV, unused A, unused B, lane kind, in that order; the row that passes them all. They look
at the lane's kind alone, so they are the same for every carrier of samples. -/
def checkedRow {α : Type} (t : Transaction α) : Except DecodeError Mnemonic :=
  match Mnemonic.ofOpcode (opcField t.word) with
  | none => .error .undefinedOpcode
  | some m =>
    if rsvField t.word ≠ 0 then .error .reservedNonzero
    else if m.usesA = false ∧ aField t.word ≠ 0 then .error .unusedANonzero
    else if m.usesB = false ∧ bField t.word ≠ 0 then .error .unusedBNonzero
    else if t.data.kind ≠ m.laneIn then .error .wrongLane
    else .ok m

/-- The decode procedure of R90: the checks, then the row's command with A, B and the lane's item. -/
def decode (t : Transaction) : Except DecodeError Instr :=
  match checkedRow t with
  | .error e => .error e
  | .ok m => buildInstr m (aField t.word) (bField t.word) t.data

/-- The command word of R81 with RSV = 0. -/
def commandWord (m : Mnemonic) (a b : Byte) : Word := m.opcode ++ (0 : Byte) ++ a ++ b

/-- The mnemonic of a command. -/
def Instr.mnemonic : Instr → Mnemonic
  | .nop => .nop
  | .reset => .reset
  | .regRd _ => .regRd
  | .regWr _ _ => .regWr
  | .sregRd _ => .sregRd
  | .crcInit => .crcInit
  | .crcByte _ => .crcByte
  | .crcCheck _ => .crcCheck
  | .bufWr _ _ => .bufWr
  | .bufRd _ => .bufRd
  | .pktSeal => .pktSeal
  | .pktCheck _ => .pktCheck
  | .modStart => .modStart
  | .modByte _ => .modByte
  | .modEnd => .modEnd
  | .demStart => .demStart
  | .demSample _ => .demSample
  | .demEnd => .demEnd

/-- The transaction that is a command (R81, R87, R91). -/
def encode (i : Instr) : Transaction :=
  match i with
  | .nop => ⟨commandWord .nop 0 0, .none⟩
  | .reset => ⟨commandWord .reset 0 0, .none⟩
  | .regRd r => ⟨commandWord .regRd 0 r, .none⟩
  | .regWr r v => ⟨commandWord .regWr 0 r, .u32 v⟩
  | .sregRd r => ⟨commandWord .sregRd 0 r, .none⟩
  | .crcInit => ⟨commandWord .crcInit 0 0, .none⟩
  | .crcByte b => ⟨commandWord .crcByte 0 b, .none⟩
  | .crcCheck e => ⟨commandWord .crcCheck 0 0, .u32 e⟩
  | .bufWr a b => ⟨commandWord .bufWr a b, .none⟩
  | .bufRd a => ⟨commandWord .bufRd a 0, .none⟩
  | .pktSeal => ⟨commandWord .pktSeal 0 0, .none⟩
  | .pktCheck m => ⟨commandWord .pktCheck 0 0, .u32 m⟩
  | .modStart => ⟨commandWord .modStart 0 0, .none⟩
  | .modByte b => ⟨commandWord .modByte 0 b, .none⟩
  | .modEnd => ⟨commandWord .modEnd 0 0, .none⟩
  | .demStart => ⟨commandWord .demStart 0 0, .none⟩
  | .demSample x => ⟨commandWord .demSample 0 0, .sample x⟩
  | .demEnd => ⟨commandWord .demEnd 0 0, .none⟩

/-- The data lane of zeros of a kind. -/
def LaneKind.zeroLane : LaneKind → DataLane
  | .none => .none
  | .u32 => .u32 0
  | .sample => .sample ⟨0⟩

/-- The transaction a table word stands for: the word, and beside it, on the data lane, an item of zeros of the kind
the word's opcode takes (the table gives the lane no bits). DESIGN CHOICE, safe (log 2). -/
def tableTransaction (nbits w : Nat) : Transaction :=
  let word := BitVec.ofNat 32 (w % 2 ^ nbits)
  ⟨word, match Mnemonic.ofOpcode (opcField word) with
    | some m => m.laneIn.zeroLane
    | none => .none⟩

/-- What the decoder reads from a word of the opcode table. -/
def decodeTableWord (nbits w : Nat) : Option Instr := (decode (tableTransaction nbits w)).toOption

end Sys2Proof
end

