-- ==== Sys2Proof/Machine/State.lean ====
section
/-! DEFINITION. The state of the block (10_state.md), the ways a step can stop, and the state after power-on
reset (70_reset_and_hazards.md R250). -/

namespace Sys2Proof.Machine

/-- PBUF (10_state.md R44, 20_memory.md R60): the WRITTEN bytes, as (address, byte) pairs with strictly rising
addresses. An address that is not listed is an unwritten byte, which reads as a draw (R72). -/
abbrev Memory := List Host.Cell

/-- The four CFG registers taken together (R25 to R28): the configuration a rule is evaluated under. -/
structure Cfg where
  /-- SAMPLE_RATE (R25) -/
  sampleRate : Word
  /-- BIT_RATE (R26) -/
  bitRate : Word
  /-- FREQ0 (R27) -/
  freq0 : Word
  /-- FREQ1 (R28) -/
  freq1 : Word
  deriving DecidableEq, Repr

/-- The state of the block, its two output logs, and the command port. It is a record over the carrier of samples,
NUM.Sample (R7); `State` alone is the one over the machine's own carrier. -/
structure State (α : Type := Sample) where
  /-- SAMPLE_RATE, CFG (R25) -/
  sampleRate : Word
  /-- BIT_RATE, CFG (R26) -/
  bitRate : Word
  /-- FREQ0, CFG (R27) -/
  freq0 : Word
  /-- FREQ1, CFG (R28) -/
  freq1 : Word
  /-- CRC_STATE, RW (R32) -/
  crcState : Word
  /-- STATUS bit 0, MOD_ACTIVE (R24) -/
  modActive : Bool
  /-- MOD_N (R34) -/
  modN : Word
  /-- STATUS bit 1, DEM_ACTIVE (R24) -/
  demActive : Bool
  /-- DEM_SKIP (R35) -/
  demSkip : Word
  /-- DEM_WCNT (R36) -/
  demWcnt : Word
  /-- DEM_BSR bits 7:0; bits 31:8 read 0 (R37) -/
  demBsr : Byte
  /-- DEM_BCNT, 0 to 7 between commands (R37) -/
  demBcnt : Fin 8
  /-- DEM_LASTBIT bit 0; bits 31:1 read 0 (R38) -/
  demLastbit : BitVec 1
  /-- PKT_LEN bits 15:0; bits 31:16 read 0 (R39) -/
  pktLen : BitVec 16
  /-- PKT_CALC (R39) -/
  pktCalc : Word
  /-- S1_0 (R41) -/
  s1_0 : α
  /-- S2_0 (R41) -/
  s2_0 : α
  /-- S1_1 (R41) -/
  s1_1 : α
  /-- S2_1 (R41) -/
  s2_1 : α
  /-- POWER0 (R41, R43) -/
  power0 : α
  /-- POWER1 (R41, R43) -/
  power1 : α
  /-- PBUF (R44, R60) -/
  pbuf : Memory
  /-- TXLOG, oldest first (R46) -/
  txlog : List α
  /-- RXLOG, oldest first (R47) -/
  rxlog : List Byte
  /-- MODEL's own: the transactions the host has presented and the block has not yet taken, next first (R48; log 1) -/
  port : List (Transaction α)
  /-- MODEL's own: the responses returned so far, oldest first (R49; log 6) -/
  responses : List (Response α)
  /-- MODEL's own: how many unwritten PBUF bytes have been read; it indexes the free values of R72 (log 4) -/
  draws : Nat
  deriving DecidableEq, Repr

/-- Why the machine stops with a fault: never. Every command ends with a response code (60_exceptions.md R220),
no failing command stops the block or transfers control (R224, R226, R227), and an 8-bit address cannot leave PBUF
(42_packet.md R143). So the type has no constructor (log 11). -/
inductive Fault where
  deriving DecidableEq, Repr

/-- Why a command has no meaning. -/
inductive Refusal where
  /-- Raised by an arm of `exec` whose command has no meaning yet; no arm raises it. Safe: a refusal proves nothing
  about the block. -/
  | notModelled (mnemonic : String)
  deriving DecidableEq, Repr

/-- The state after power-on reset, for any NUM: the column "power-on" of R250. The last three fields are the model's
own (DESIGN CHOICE, log 1, log 4, log 6). -/
def powerOn {α : Type} (N : Numerics α) : State α where
  sampleRate := 48000
  bitRate := 1200
  freq0 := 1200
  freq1 := 2400
  crcState := 0xFFFFFFFF
  modActive := false
  modN := 0
  demActive := false
  demSkip := 0
  demWcnt := 0
  demBsr := 0
  demBcnt := 0
  demLastbit := 0
  pktLen := 0
  pktCalc := 0
  s1_0 := N.zero
  s2_0 := N.zero
  s1_1 := N.zero
  s2_1 := N.zero
  power0 := N.zero
  power1 := N.zero
  pbuf := []
  txlog := []
  rxlog := []
  port := []
  responses := []
  draws := 0

/-- The machine's state after power-on reset. -/
def State.reset : State := powerOn Config.num

end Sys2Proof.Machine
end

