-- ==== Sys2Proof/Machine/Ops.lean ====
section
/-! DEFINITION. The named operations of the spec's pseudocode (00_scope.md R9, R10, R11): byte sequences, PBUF
reads and writes (20_memory.md R60, R72), the two output logs, and ending a command with a response
(30_encoding.md R85, 60_exceptions.md R220 to R222). -/

namespace Sys2Proof.Machine

/-! ### Byte sequences and rounding (R9, R11) -/

/-- `readBE16`, `readBE32` and their like (R9): the value of a big-endian byte sequence. -/
def readBE (bs : List Byte) : Nat := bs.foldl (fun acc b => acc * 256 + b.toNat) 0

/-- `BE16` (R9). -/
def be16 (v : BitVec 16) : List Byte := [v.extractLsb' 8 8, v.extractLsb' 0 8]

/-- `BE32` (R9). -/
def be32 (v : Word) : List Byte :=
  [v.extractLsb' 24 8, v.extractLsb' 16 8, v.extractLsb' 8 8, v.extractLsb' 0 8]

/-- `bitsMSB` (R9): bit 7 first. -/
def bitsMSB (b : Byte) : List Bool :=
  [b.getLsbD 7, b.getLsbD 6, b.getLsbD 5, b.getLsbD 4, b.getLsbD 3, b.getLsbD 2, b.getLsbD 1, b.getLsbD 0]

/-- `roundDiv(N·f, fs)` (R11): rounded to nearest, an exact half up. -/
def roundDiv (nf fs : Nat) : Nat := (2 * nf + fs) / (2 * fs)

/-! ### PBUF -/

/-- What PBUF holds at an address: nothing where no byte was ever written (R44, R72). -/
def Memory.find : Memory → Nat → Option Byte
  | [], _ => none
  | (b, v) :: m, a => if a = b then some v else Memory.find m a

/-- PBUF with a byte written (R60), in rising order of address. -/
def Memory.store : Memory → Nat → Byte → Memory
  | [], a, v => [(a, v)]
  | (b, w) :: m, a, v =>
    if a < b then (a, v) :: (b, w) :: m
    else if a = b then (a, v) :: m
    else (b, w) :: Memory.store m a v

/-- The one canonical form: addresses strictly rising, all inside the 256 bytes of R60. -/
abbrev Memory.wf (m : Memory) : Prop :=
  m.Pairwise (fun x y => x.1 < y.1) ∧ ∀ c ∈ m, c.1 < Config.pbufSize

/-- `MemRead(a, 1)` (R60): a written byte as it stands; for an unwritten one a draw, anew at each read (R72). -/
def memRead {α : Type} (a : Byte) (s : State α) : Byte × State α :=
  match s.pbuf.find a.toNat with
  | some v => (v, s)
  | none => (Config.draw s.draws a, { s with draws := s.draws + 1 })

/-- Several one-byte reads, in order (R60: a multi-byte field is read as several one-byte reads). -/
def memReads {α : Type} : List Byte → State α → List Byte × State α
  | [], s => ([], s)
  | a :: as, s => ((memRead a s).1 :: (memReads as (memRead a s).2).1, (memReads as (memRead a s).2).2)

/-- `MemWrite(a, 1, v)` (R60). -/
def memWrite {α : Type} (a v : Byte) (s : State α) : State α := { s with pbuf := s.pbuf.store a.toNat v }

/-- Bytes written at rising addresses from `a` on. -/
def memWrites {α : Type} : Byte → List Byte → State α → State α
  | _, [], s => s
  | a, v :: vs, s => memWrites (a + 1) vs (memWrite a v s)

/-! ### The output logs (R46, R47) -/

/-- `emitTX` of several samples, in order (R10, R46). -/
def emitTX {α : Type} (xs : List α) (s : State α) : State α := { s with txlog := s.txlog ++ xs }

/-- `emitRX` (R10, R47). -/
def emitRX {α : Type} (b : Byte) (s : State α) : State α := { s with rxlog := s.rxlog ++ [b] }

/-! ### Responses -/

/-- The code's value (R86). -/
def respCodeBits : RespCode → BitVec 4
  | .ok => 0x0
  | .payloadTooLarge => 0x1
  | .framingError => 0x2
  | .integrityError => 0x3
  | .errIllegal => 0x8
  | .errArg => 0x9
  | .errState => 0xA
  | .errBusy => 0xB
  | .errConfig => 0xC
  | .errOverflow => 0xD

/-- The response word: the code in bits 3:0, bits 31:4 zero (R85). -/
def responseWord {α : Type} (r : Response α) : Word := (respCodeBits r.code).setWidth 32

/-- The class of a code (R220). -/
def respCodeClass : RespCode → RespClass
  | .ok => .success
  | .payloadTooLarge | .framingError | .integrityError => .verdict
  | .errIllegal | .errArg | .errState | .errBusy | .errConfig | .errOverflow => .error

/-- The state with one more response returned to the host (R48). -/
def respond {α : Type} (c : RespCode) (d : DataLane α) (s : State α) : State α :=
  { s with responses := s.responses ++ [⟨c, d⟩] }

/-- `respond(code, data)` (R10): it ends the command. -/
def answer {α : Type} (c : RespCode) (d : DataLane α) (s : State α) : Host.Outcome (State α) Fault Refusal :=
  .next (respond c d s)

/-- `raise E` (R10): the one way a command fails. It saves nothing, changes no mode and goes nowhere (R222, R226):
it answers the code without data. There is no return from it (R227). -/
def raise {α : Type} (c : RespCode) (s : State α) : Host.Outcome (State α) Fault Refusal := answer c .none s

/-- What the block does with a transaction that does not decode: ERR_ILLEGAL, no effect (R82 to R84, R88, R90). -/
def rejectIllegal {α : Type} (s : State α) : Host.Outcome (State α) Fault Refusal := raise .errIllegal s

/-! ### The port and the configuration -/

/-- The state after the host has presented further transactions, behind those still waiting (R48). -/
def present {α : Type} (ts : List (Transaction α)) (s : State α) : State α := { s with port := s.port ++ ts }

/-- The configuration registers as they stand. -/
def State.cfg {α : Type} (s : State α) : Cfg := ⟨s.sampleRate, s.bitRate, s.freq0, s.freq1⟩

end Sys2Proof.Machine
end

