-- ==== Sys2Proof/Machine/Flags.lean ====
section
/-! DEFINITION. The configuration's legality (10_state.md R29) and STATUS, the block's only flag register (R24). -/

namespace Sys2Proof.Machine

/-- `CFG_LEGAL()` (R29). -/
def cfgLegal (c : Cfg) : Bool :=
  1 ≤ c.sampleRate.toNat && 1 ≤ c.bitRate.toNat
    && c.sampleRate.toNat % c.bitRate.toNat == 0
    && c.sampleRate.toNat / c.bitRate.toNat ≤ Config.spbMax

/-- A stream is open: the CFG registers are frozen (40_control.md R103, R256). -/
def streamOpen {α : Type} (s : State α) : Bool := s.modActive || s.demActive

/-- STATUS (R24): bit 0 MOD_ACTIVE, bit 1 DEM_ACTIVE, bit 2 CFG_LEGAL, bits 31:3 zero. -/
def statusWord {α : Type} (s : State α) : Word :=
  (0 : BitVec 29) ++ BitVec.ofBool (cfgLegal s.cfg) ++ BitVec.ofBool s.demActive ++ BitVec.ofBool s.modActive

end Sys2Proof.Machine
end

