-- ==== Sys2Proof/Machine/Operands.lean ====
section
/-! DEFINITION. The two register files: numbers, access and what a read gives (10_state.md R23, R30 to R43). -/

namespace Sys2Proof.Machine

/-! ### Values computed from the configuration -/

/-- `freq(v)` (43_modulator.md R170, 44_detector.md R190): FREQ0 for bit 0, FREQ1 for bit 1. -/
def Cfg.freq (c : Cfg) (v : Bool) : Word := if v then c.freq1 else c.freq0

/-- SPB (R30). -/
def spb (c : Cfg) : Nat := if cfgLegal c then c.sampleRate.toNat / c.bitRate.toNat else 0

/-- K0 and K1 (R31, R190). -/
def binIndex (c : Cfg) (v : Bool) : Nat :=
  if cfgLegal c then roundDiv (spb c * (c.freq v).toNat) c.sampleRate.toNat else 0

/-- COEFF0 and COEFF1 (R42, R191), under any numerics. -/
def coeff {α : Type} (N : Numerics α) (c : Cfg) (v : Bool) : α :=
  if cfgLegal c then N.gcoeff (binIndex c v) (spb c) else N.zero

/-! ### The integer register file (R23) -/

/-- The registers of R23. -/
inductive IntReg where
  | status | sampleRate | bitRate | freq0 | freq1 | spb | k0 | k1 | crcState | crcResult
  | modN | demSkip | demWcnt | demBsr | demBcnt | demLastbit | pktLen | pktCalc
  deriving DecidableEq, Repr

/-- The access column of R23. -/
inductive Access where
  /-- read-only -/
  | ro
  /-- readable and writable -/
  | rw
  /-- writable while no stream is open -/
  | cfg
  deriving DecidableEq, Repr

/-- The number column of R23; 0x12 to 0xFF name no register (R40). -/
def IntReg.ofNum (n : Byte) : Option IntReg :=
  match n.toNat with
  | 0x00 => some .status
  | 0x01 => some .sampleRate
  | 0x02 => some .bitRate
  | 0x03 => some .freq0
  | 0x04 => some .freq1
  | 0x05 => some .spb
  | 0x06 => some .k0
  | 0x07 => some .k1
  | 0x08 => some .crcState
  | 0x09 => some .crcResult
  | 0x0A => some .modN
  | 0x0B => some .demSkip
  | 0x0C => some .demWcnt
  | 0x0D => some .demBsr
  | 0x0E => some .demBcnt
  | 0x0F => some .demLastbit
  | 0x10 => some .pktLen
  | 0x11 => some .pktCalc
  | _ => none

/-- The access of a register (R23). -/
def IntReg.access : IntReg → Access
  | .sampleRate | .bitRate | .freq0 | .freq1 => .cfg
  | .crcState => .rw
  | .status | .spb | .k0 | .k1 | .crcResult | .modN | .demSkip | .demWcnt | .demBsr | .demBcnt | .demLastbit
  | .pktLen | .pktCalc => .ro

/-- `R[name]` (R10): what a register reads as. Computed registers are evaluated now (R102). -/
def readReg {α : Type} (r : IntReg) (s : State α) : Word :=
  match r with
  | .status => statusWord s
  | .sampleRate => s.sampleRate
  | .bitRate => s.bitRate
  | .freq0 => s.freq0
  | .freq1 => s.freq1
  | .spb => BitVec.ofNat 32 (spb s.cfg)
  | .k0 => BitVec.ofNat 32 (binIndex s.cfg false)
  | .k1 => BitVec.ofNat 32 (binIndex s.cfg true)
  | .crcState => s.crcState
  | .crcResult => s.crcState ^^^ Config.crcXorOut
  | .modN => s.modN
  | .demSkip => s.demSkip
  | .demWcnt => s.demWcnt
  | .demBsr => s.demBsr.setWidth 32
  | .demBcnt => BitVec.ofNat 32 s.demBcnt.val
  | .demLastbit => s.demLastbit.setWidth 32
  | .pktLen => s.pktLen.setWidth 32
  | .pktCalc => s.pktCalc

/-- `R[name] <- v` (R10) for the registers REG_WR can write (R103); the others keep their value. -/
def writeReg {α : Type} (r : IntReg) (v : Word) (s : State α) : State α :=
  match r with
  | .sampleRate => { s with sampleRate := v }
  | .bitRate => { s with bitRate := v }
  | .freq0 => { s with freq0 := v }
  | .freq1 => { s with freq1 := v }
  | .crcState => { s with crcState := v }
  | .status | .spb | .k0 | .k1 | .crcResult | .modN | .demSkip | .demWcnt | .demBsr | .demBcnt | .demLastbit
  | .pktLen | .pktCalc => s

/-! ### The sample register file (R41) -/

/-- The registers of R41. -/
inductive SampleReg where
  | s1_0 | s2_0 | s1_1 | s2_1 | power0 | power1 | coeff0 | coeff1
  deriving DecidableEq, Repr

/-- The number column of R41; 0x08 to 0xFF name no register. -/
def SampleReg.ofNum (n : Byte) : Option SampleReg :=
  match n.toNat with
  | 0x00 => some .s1_0
  | 0x01 => some .s2_0
  | 0x02 => some .s1_1
  | 0x03 => some .s2_1
  | 0x04 => some .power0
  | 0x05 => some .power1
  | 0x06 => some .coeff0
  | 0x07 => some .coeff1
  | _ => none

/-- `S[name]` (R10): COEFF0 and COEFF1 are evaluated now (R42, R104). -/
def readSample {α : Type} (N : Numerics α) (r : SampleReg) (s : State α) : α :=
  match r with
  | .s1_0 => s.s1_0
  | .s2_0 => s.s2_0
  | .s1_1 => s.s1_1
  | .s2_1 => s.s2_1
  | .power0 => s.power0
  | .power1 => s.power1
  | .coeff0 => coeff N s.cfg false
  | .coeff1 => coeff N s.cfg true

end Sys2Proof.Machine
end

