-- ==== Sys2Proof/Machine/Control.lean ====
section
/-! DEFINITION. The control commands (40_control.md R100 to R104). -/

namespace Sys2Proof.Machine

/-- NOP (R100). -/
def runNop {α : Type} (s : State α) : Host.Outcome (State α) Fault Refusal := answer .ok .none s

/-- NOP (R100) on the machine the host runs. -/
def execNop (s : State) : Host.Outcome State Fault Refusal := runNop s

/-- Every register at its reset value (R101, column "RESET cmd" of R250); PBUF and the logs stay (R251), as do the
model's own fields. -/
def resetRegisters {α : Type} (N : Numerics α) (s : State α) : State α :=
  { powerOn N with
    pbuf := s.pbuf, txlog := s.txlog, rxlog := s.rxlog,
    port := s.port, responses := s.responses, draws := s.draws }

/-- RESET (R101), accepted in every state. -/
def runReset {α : Type} (N : Numerics α) (s : State α) : Host.Outcome (State α) Fault Refusal :=
  answer .ok .none (resetRegisters N s)

/-- RESET (R101) on the machine the host runs. -/
def execReset (s : State) : Host.Outcome State Fault Refusal := runReset Config.num s

/-- REG_RD (R102). -/
def runRegRd {α : Type} (r : Byte) (s : State α) : Host.Outcome (State α) Fault Refusal :=
  match IntReg.ofNum r with
  | none => raise .errArg s
  | some reg => answer .ok (.u32 (readReg reg s)) s

/-- REG_RD (R102) on the machine the host runs. -/
def execRegRd (r : Byte) (s : State) : Host.Outcome State Fault Refusal := runRegRd r s

/-- REG_WR (R103): undefined number, read-only, then a CFG register while a stream is open (R223). -/
def runRegWr {α : Type} (r : Byte) (v : Word) (s : State α) : Host.Outcome (State α) Fault Refusal :=
  match IntReg.ofNum r with
  | none => raise .errArg s
  | some reg =>
    match reg.access with
    | .ro => raise .errArg s
    | .cfg => if streamOpen s then raise .errBusy s else answer .ok .none (writeReg reg v s)
    | .rw => answer .ok .none (writeReg reg v s)

/-- REG_WR (R103) on the machine the host runs. -/
def execRegWr (r : Byte) (v : Word) (s : State) : Host.Outcome State Fault Refusal := runRegWr r v s

/-- SREG_RD (R104). -/
def runSregRd {α : Type} (N : Numerics α) (r : Byte) (s : State α) : Host.Outcome (State α) Fault Refusal :=
  match SampleReg.ofNum r with
  | none => raise .errArg s
  | some reg => answer .ok (.sample (readSample N reg s)) s

/-- SREG_RD (R104) on the machine the host runs. -/
def execSregRd (r : Byte) (s : State) : Host.Outcome State Fault Refusal := runSregRd Config.num r s

end Sys2Proof.Machine
end

