-- ==== Sys2Proof/Machine/Crc.lean ====
section
/-! DEFINITION. The CRC-32 unit (41_crc.md R120 to R126). -/

namespace Sys2Proof.Machine

/-- One turn of R121's loop: shift right, with the polynomial if the bit shifted out is 1. -/
def crcShift (c : Word) : Word := if c.getLsbD 0 then (c >>> 1) ^^^ Config.crcPoly else c >>> 1

/-- `n` turns of the loop. -/
def crcShifts : Nat → Word → Word
  | 0, c => c
  | n + 1, c => crcShifts n (crcShift c)

/-- `CRC_TABLE[i]` (R121): the ROM of R45, by its index (log 12). -/
def crcTable (i : Byte) : Word := crcShifts 8 (i.setWidth 32)

/-- `crcStep` (R122). -/
def crcStep (c : Word) (b : Byte) : Word :=
  crcTable ((c ^^^ b.setWidth 32).setWidth 8) ^^^ (c >>> 8)

/-- The CRC register after a byte sequence, from a register value. -/
def crcFold (c : Word) (bs : List Byte) : Word := bs.foldl crcStep c

/-- `crc32` (R123). -/
def crc32 (bs : List Byte) : Word := crcFold Config.crcInit bs ^^^ Config.crcXorOut

/-- CRC_INIT (R124). -/
def runCrcInit {α : Type} (s : State α) : Host.Outcome (State α) Fault Refusal :=
  answer .ok .none { s with crcState := Config.crcInit }

/-- CRC_INIT (R124) on the machine the host runs. -/
def execCrcInit (s : State) : Host.Outcome State Fault Refusal := runCrcInit s

/-- CRC_BYTE (R125). -/
def runCrcByte {α : Type} (b : Byte) (s : State α) : Host.Outcome (State α) Fault Refusal :=
  answer .ok .none { s with crcState := crcStep s.crcState b }

/-- CRC_BYTE (R125) on the machine the host runs. -/
def execCrcByte (b : Byte) (s : State) : Host.Outcome State Fault Refusal := runCrcByte b s

/-- CRC_CHECK (R126): a verdict that writes nothing. -/
def runCrcCheck {α : Type} (e : Word) (s : State α) : Host.Outcome (State α) Fault Refusal :=
  if readReg .crcResult s = e then answer .ok (.u32 (readReg .crcResult s)) s
  else answer .integrityError (.u32 (readReg .crcResult s)) s

/-- CRC_CHECK (R126) on the machine the host runs. -/
def execCrcCheck (e : Word) (s : State) : Host.Outcome State Fault Refusal := runCrcCheck e s

end Sys2Proof.Machine
end

