-- ==== Sys2Proof/Machine/Detector.lean ====
section
/-! DEFINITION. The Goertzel tone detector and demodulator (44_detector.md R190 to R199). -/

namespace Sys2Proof.Machine

/-! ### The function (R192 to R196), under any numerics -/

/-- The recurrence of R192: the new pair (s1, s2) after one sample. -/
def goertzelStep {α : Type} (N : Numerics α) (k : α) (st : α × α) (x : α) : α × α :=
  (N.sub (N.add x (N.mul k st.1)) st.2, st.1)

/-- `power(s1, s2, coeff)` (R193). -/
def power {α : Type} (N : Numerics α) (s1 s2 k : α) : α :=
  N.sub (N.add (N.mul s1 s1) (N.mul s2 s2)) (N.mul (N.mul k s1) s2)

/-- The pair (s1, s2) after the samples of a window, from zero (R192, R194). -/
def goertzelState {α : Type} (N : Numerics α) (k : α) (w : List α) : α × α :=
  w.foldl (goertzelStep N k) (N.zero, N.zero)

/-- The power of a window for a coefficient (R194). -/
def windowPower {α : Type} (N : Numerics α) (k : α) (w : List α) : α :=
  power N (goertzelState N k w).1 (goertzelState N k w).2 k

/-- `goertzel(w, c)` (R194). -/
def goertzel {α : Type} (N : Numerics α) (c : Cfg) (w : List α) (v : Bool) : α :=
  windowPower N (coeff N c v) w

/-- `bit(w)` (R195): strict, so equal powers give 0. -/
def decideBit {α : Type} (N : Numerics α) (c : Cfg) (w : List α) : Bool :=
  N.gt (goertzel N c w true) (goertzel N c w false)

/-- `P`, the preamble's length in samples (R196). -/
def preambleSamples (c : Cfg) : Nat := Config.preambleBits * spb c

/-- `W`, the number of complete windows (R196). Under an illegal configuration N = SPB = 0 and R196's `div N` has no
value (R8 gives `div` for b ≥ 1 only); here it is 0, so that `demodulate` gives nothing. DESIGN CHOICE (log 7); no
command reaches it, because DEM_START refuses such a configuration. -/
def windowCount (c : Cfg) (len : Nat) : Nat :=
  if len ≥ preambleSamples c then (len - preambleSamples c) / spb c else 0

/-- `win(j)` (R196). -/
def windowAt {α : Type} (c : Cfg) (xs : List α) (j : Nat) : List α :=
  (xs.drop (preambleSamples c + j * spb c)).take (spb c)

/-- `bitstream` (R196). -/
def bitstream {α : Type} (N : Numerics α) (c : Cfg) (xs : List α) : List Bool :=
  (List.range (windowCount c xs.length)).map fun j => decideBit N c (windowAt c xs j)

/-- `byte(i)` (R196): most significant bit first. -/
def byteAt (bits : List Bool) (i : Nat) : Byte :=
  BitVec.ofNat 8 (((List.range 8).map fun t => (bits.getD (8 * i + t) false).toNat * 2 ^ (7 - t)).sum)

/-- `demodulate(xs)` (R196): the last bits that fill no byte are dropped. -/
def demodulate {α : Type} (N : Numerics α) (c : Cfg) (xs : List α) : List Byte :=
  (List.range (windowCount c xs.length / 8)).map (byteAt (bitstream N c xs))

/-! ### The commands -/

/-- Both filters' pairs set to NUM.zero (R192, R197 to R199). -/
def clearFilters {α : Type} (N : Numerics α) (s : State α) : State α :=
  { s with
    s1_0 := N.zero, s2_0 := N.zero, s1_1 := N.zero, s2_1 := N.zero }

/-- DEM_START (R197). POWER0, POWER1 and DEM_LASTBIT keep their values. -/
def runDemStart {α : Type} (N : Numerics α) (s : State α) : Host.Outcome (State α) Fault Refusal :=
  if s.demActive then raise .errState s
  else if cfgLegal s.cfg = false then raise .errConfig s
  else answer .ok .none
    { clearFilters N s with
      demSkip := BitVec.ofNat 32 (preambleSamples s.cfg), demWcnt := 0, demBsr := 0, demBcnt := 0, demActive := true }

/-- DEM_START (R197) on the machine the host runs. -/
def execDemStart (s : State) : Host.Outcome State Fault Refusal := runDemStart Config.num s

/-- One sample into both filters, and DEM_WCNT advanced (R192, R198). -/
def feedFilters {α : Type} (N : Numerics α) (x : α) (s : State α) : State α :=
  let f0 := goertzelStep N (coeff N s.cfg false) (s.s1_0, s.s2_0) x
  let f1 := goertzelStep N (coeff N s.cfg true) (s.s1_1, s.s2_1) x
  { s with s1_0 := f0.1, s2_0 := f0.2, s1_1 := f1.1, s2_1 := f1.2, demWcnt := s.demWcnt + 1 }

/-- The powers of a complete window (R43, R193). -/
def latchPowers {α : Type} (N : Numerics α) (s : State α) : State α :=
  { s with
    power0 := power N s.s1_0 s.s2_0 (coeff N s.cfg false)
    power1 := power N s.s1_1 s.s2_1 (coeff N s.cfg true) }

/-- The decided bit into DEM_LASTBIT and the byte being assembled; an eighth bit emits the byte (R37, R198). -/
def shiftInBit {α : Type} (v : Bool) (s : State α) : State α :=
  let bsr := (s.demBsr <<< 1) ||| (BitVec.ofBool v).setWidth 8
  if s.demBcnt = 7 then { emitRX bsr s with demLastbit := BitVec.ofBool v, demBsr := 0, demBcnt := 0 }
  else { s with demLastbit := BitVec.ofBool v, demBsr := bsr, demBcnt := s.demBcnt + 1 }

/-- The end of a window (R198): powers, decision (R195), byte, and the filters and DEM_WCNT from zero again. -/
def closeWindow {α : Type} (N : Numerics α) (s : State α) : State α :=
  let t := latchPowers N s
  { clearFilters N (shiftInBit (N.gt t.power1 t.power0) t) with demWcnt := 0 }

/-- DEM_SAMPLE (R198). -/
def runDemSample {α : Type} (N : Numerics α) (x : α) (s : State α) : Host.Outcome (State α) Fault Refusal :=
  if s.demActive = false then raise .errState s
  else if s.demSkip.toNat > 0 then answer .ok .none { s with demSkip := s.demSkip - 1 }
  else
    let t := feedFilters N x s
    if t.demWcnt.toNat = spb t.cfg then answer .ok .none (closeWindow N t) else answer .ok .none t

/-- DEM_SAMPLE (R198) on the machine the host runs. -/
def execDemSample (x : Sample) (s : State) : Host.Outcome State Fault Refusal := runDemSample Config.num x s

/-- DEM_END (R199): a partial window and an incomplete byte are discarded. -/
def runDemEnd {α : Type} (N : Numerics α) (s : State α) : Host.Outcome (State α) Fault Refusal :=
  if s.demActive = false then raise .errState s
  else answer .ok .none
    { clearFilters N s with demSkip := 0, demWcnt := 0, demBsr := 0, demBcnt := 0, demActive := false }

/-- DEM_END (R199) on the machine the host runs. -/
def execDemEnd (s : State) : Host.Outcome State Fault Refusal := runDemEnd Config.num s

end Sys2Proof.Machine
end

