-- ==== Sys2Proof/Machine/Modulator.lean ====
section
/-! DEFINITION. The FSK modulator (43_modulator.md R170 to R177). -/

namespace Sys2Proof.Machine

/-! ### The function (R171 to R174), under any numerics -/

/-- The preamble `PRE` (R171): 1 at even places, 0 at odd ones. -/
def preamble : List Bool := (List.range Config.preambleBits).map fun i => i % 2 == 0

/-- `toneSample(v, n)` (R173). -/
def toneSample {α : Type} (N : Numerics α) (c : Cfg) (v : Bool) (n : Nat) : α :=
  N.tone (c.freq v) c.sampleRate n

/-- `bits(s)` (R174). -/
def frameBits (bs : List Byte) : List Bool := preamble ++ bs.flatMap bitsMSB

/-- `modulate(s)` (R174): sample n belongs to bit n div SPB. -/
def modulate {α : Type} (N : Numerics α) (c : Cfg) (bs : List Byte) : List α :=
  (List.range ((16 + 8 * bs.length) * spb c)).map fun n =>
    toneSample N c ((frameBits bs).getD (n / spb c) false) n

/-! ### The commands -/

/-- The SPB samples of one bit from frame index `n` on (R173). -/
def bitSamples {α : Type} (N : Numerics α) (c : Cfg) (v : Bool) (n : Nat) : List α :=
  (List.range (spb c)).map fun j => toneSample N c v (n + j)

/-- `sendBit(v)` (R175): SPB samples emitted from MOD_N on, and MOD_N advanced by SPB. -/
def sendBit {α : Type} (N : Numerics α) (v : Bool) (s : State α) : State α :=
  { emitTX (bitSamples N s.cfg v s.modN.toNat) s with
    modN := s.modN + BitVec.ofNat 32 (spb s.cfg) }

/-- `sendBit` of each bit in order. -/
def sendBits {α : Type} (N : Numerics α) : List Bool → State α → State α
  | [], s => s
  | v :: vs, s => sendBits N vs (sendBit N v s)

/-- MOD_START (R175). -/
def runModStart {α : Type} (N : Numerics α) (s : State α) : Host.Outcome (State α) Fault Refusal :=
  if s.modActive then raise .errState s
  else if cfgLegal s.cfg = false then raise .errConfig s
  else answer .ok .none (sendBits N preamble { s with modN := 0, modActive := true })

/-- MOD_START (R175) on the machine the host runs. -/
def execModStart (s : State) : Host.Outcome State Fault Refusal := runModStart Config.num s

/-- MOD_BYTE (R176); the overflow check is exact in ℕ. -/
def runModByte {α : Type} (N : Numerics α) (b : Byte) (s : State α) : Host.Outcome (State α) Fault Refusal :=
  if s.modActive = false then raise .errState s
  else if s.modN.toNat + 8 * spb s.cfg > 4294967295 then raise .errOverflow s
  else answer .ok .none (sendBits N (bitsMSB b) s)

/-- MOD_BYTE (R176) on the machine the host runs. -/
def execModByte (b : Byte) (s : State) : Host.Outcome State Fault Refusal := runModByte Config.num b s

/-- MOD_END (R177). -/
def runModEnd {α : Type} (s : State α) : Host.Outcome (State α) Fault Refusal :=
  if s.modActive = false then raise .errState s
  else answer .ok .none { s with modActive := false }

/-- MOD_END (R177) on the machine the host runs. -/
def execModEnd (s : State) : Host.Outcome State Fault Refusal := runModEnd s

end Sys2Proof.Machine
end

