-- ==== Sys2Proof/Machine/Packet.lean ====
section
/-! DEFINITION. The packet checksum unit (42_packet.md R140 to R147). -/

namespace Sys2Proof.Machine

/-! ### The frame (R140, R142) -/

/-- `covered(f)` (R142): the first seven bytes and the declared payload, without the checksum field. -/
def covered (f : List Byte) : List Byte :=
  f.take 7 ++ (f.drop Config.headerLen).take (readBE ((f.drop 5).take 2))

/-- `checksum(f)` (R142). -/
def checksum (f : List Byte) : Word := crc32 (covered f)

/-- The type codes of R141. The block does not interpret them (R147): no rule reads this list. -/
inductive PacketType where
  | data | ack | nack | syn | fin
  deriving DecidableEq, Repr

/-- The value of a type code (R141). -/
def PacketType.code : PacketType → Byte
  | .data => 0x01
  | .ack => 0x02
  | .nack => 0x03
  | .syn => 0x04
  | .fin => 0x05

/-- The addresses of the length field, bytes 5 and 6 (R63, R140). -/
def lengthAddrs : List Byte := [5, 6]

/-- The addresses of the checksum field, bytes 7 to 10 (R63, R140). -/
def checksumAddrs : List Byte := [7, 8, 9, 10]

/-- The payload's addresses 11 to 10 + len (R140). -/
def payloadAddrs (len : Nat) : List Byte :=
  (List.range len).map fun j => BitVec.ofNat 8 (Config.headerLen + j)

/-! ### The commands -/

/-- BUF_WR (R143). -/
def runBufWr {α : Type} (a b : Byte) (s : State α) : Host.Outcome (State α) Fault Refusal :=
  answer .ok .none (memWrite a b s)

/-- BUF_WR (R143) on the machine the host runs. -/
def execBufWr (a b : Byte) (s : State) : Host.Outcome State Fault Refusal := runBufWr a b s

/-- BUF_RD (R144). -/
def runBufRd {α : Type} (a : Byte) (s : State α) : Host.Outcome (State α) Fault Refusal :=
  answer .ok (.u32 ((memRead a s).1.setWidth 32)) (memRead a s).2

/-- BUF_RD (R144) on the machine the host runs. -/
def execBufRd (a : Byte) (s : State) : Host.Outcome State Fault Refusal := runBufRd a s

/-- PKT_LEN and PKT_CALC written (R39). -/
def recordPacket {α : Type} (len : Nat) (c : Word) (s : State α) : State α :=
  { s with pktLen := BitVec.ofNat 16 len, pktCalc := c }

/-- The rest of PKT_SEAL once the length field's bytes `l` are read: each other covered byte is read once, the
length bytes are not read again ("Each PBUF byte is read at most once per command", R145). -/
def sealFrame {α : Type} (l : List Byte) (s : State α) : Host.Outcome (State α) Fault Refusal :=
  let head := memReads [0, 1, 2, 3, 4] s
  let body := memReads (payloadAddrs (readBE l)) head.2
  let c := crc32 (head.1 ++ l ++ body.1)
  answer .ok (.u32 c) (recordPacket (readBE l) c (memWrites 7 (be32 c) body.2))

/-- PKT_SEAL (R145). -/
def runPktSeal {α : Type} (s : State α) : Host.Outcome (State α) Fault Refusal :=
  let l := memReads lengthAddrs s
  if readBE l.1 > Config.maxPayload then answer .payloadTooLarge .none l.2 else sealFrame l.1 l.2

/-- PKT_SEAL (R145) on the machine the host runs. -/
def execPktSeal (s : State) : Host.Outcome State Fault Refusal := runPktSeal s

/-- The rest of PKT_CHECK once the length is accepted: the covered bytes, then the stored checksum (R146). -/
def verifyFrame {α : Type} (len : Nat) (s : State α) : Host.Outcome (State α) Fault Refusal :=
  let cov := memReads ([0, 1, 2, 3, 4, 5, 6] ++ payloadAddrs len) s
  let rx := memReads checksumAddrs cov.2
  let c := crc32 cov.1
  if c.toNat = readBE rx.1 then answer .ok (.u32 c) (recordPacket len c rx.2)
  else answer .integrityError (.u32 c) (recordPacket len c rx.2)

/-- PKT_CHECK (R146), its checks in D0's order (R223). Bytes 5 and 6 are read for the length and again among the
covered bytes, as R146 writes it (DEDUCED, safe, log 5). -/
def runPktCheck {α : Type} (m : Word) (s : State α) : Host.Outcome (State α) Fault Refusal :=
  if m.toNat > Config.pbufSize then raise .errArg s
  else if m.toNat < Config.headerLen then answer .framingError .none s
  else
    let l := memReads lengthAddrs s
    if readBE l.1 > m.toNat - Config.headerLen then answer .framingError .none l.2
    else verifyFrame (readBE l.1) l.2

/-- PKT_CHECK (R146) on the machine the host runs. -/
def execPktCheck (m : Word) (s : State) : Host.Outcome State Fault Refusal := runPktCheck m s

end Sys2Proof.Machine
end

