-- ==== Sys2Proof/Machine/Dispatch.lean ====
section
/-! DEFINITION. One arm per command (30_encoding.md R87). -/

namespace Sys2Proof.Machine

def exec (i : Instr) (s : State) : Host.Outcome State Fault Refusal :=
  match i with
  | .nop => Sys2Proof.Machine.execNop s
  | .reset => Sys2Proof.Machine.execReset s
  | .regRd r => Sys2Proof.Machine.execRegRd r s
  | .regWr r v => Sys2Proof.Machine.execRegWr r v s
  | .sregRd r => Sys2Proof.Machine.execSregRd r s
  | .crcInit => Sys2Proof.Machine.execCrcInit s
  | .crcByte b => Sys2Proof.Machine.execCrcByte b s
  | .crcCheck e => Sys2Proof.Machine.execCrcCheck e s
  | .bufWr a b => Sys2Proof.Machine.execBufWr a b s
  | .bufRd a => Sys2Proof.Machine.execBufRd a s
  | .pktSeal => Sys2Proof.Machine.execPktSeal s
  | .pktCheck m => Sys2Proof.Machine.execPktCheck m s
  | .modStart => Sys2Proof.Machine.execModStart s
  | .modByte b => Sys2Proof.Machine.execModByte b s
  | .modEnd => Sys2Proof.Machine.execModEnd s
  | .demStart => Sys2Proof.Machine.execDemStart s
  | .demSample x => Sys2Proof.Machine.execDemSample x s
  | .demEnd => Sys2Proof.Machine.execDemEnd s

end Sys2Proof.Machine
end

