-- ==== Sys2Proof/Machine/Step.lean ====
section
/-! DEFINITION. One step: the block takes the next transaction of its port and executes it (10_state.md R20, R48). -/

namespace Sys2Proof.Machine

/-- A transaction taken by the block: decoded (30_encoding.md R90) and executed, or answered ERR_ILLEGAL. -/
def accept (t : Transaction) (s : State) : Host.Outcome State Fault Refusal :=
  match decode t with
  | .ok i => exec i s
  | .error _ => rejectIllegal s

/-- One step. With no transaction waiting the block holds its state (60_exceptions.md R233; DEDUCED, log 1). -/
def step (s : State) : Host.Outcome State Fault Refusal :=
  match s.port with
  | [] => .next s
  | t :: rest => accept t { s with port := rest }

/-- The transaction of a table word put before all that wait on the port, so that the next step takes it (log 1, log 2). -/
def State.withFetchWord (s : State) (nbits w : Nat) : State :=
  { s with port := tableTransaction nbits w :: s.port }

end Sys2Proof.Machine
end

