-- ==== Sys2Proof/Machine/Assembler.lean ====
section
/-! DEFINITION. The assembler's syntax and the pseudo-instructions (30_encoding.md R91, R92). -/

namespace Sys2Proof.Machine

/-! ### Assembly lines (R91) -/

/-- The mnemonics of R87 by their spelling. -/
def mnemonicNames : List (String × Mnemonic) :=
  [ ("NOP", .nop), ("RESET", .reset), ("REG_RD", .regRd), ("REG_WR", .regWr), ("SREG_RD", .sregRd),
    ("CRC_INIT", .crcInit), ("CRC_BYTE", .crcByte), ("CRC_CHECK", .crcCheck),
    ("BUF_WR", .bufWr), ("BUF_RD", .bufRd), ("PKT_SEAL", .pktSeal), ("PKT_CHECK", .pktCheck),
    ("MOD_START", .modStart), ("MOD_BYTE", .modByte), ("MOD_END", .modEnd),
    ("DEM_START", .demStart), ("DEM_SAMPLE", .demSample), ("DEM_END", .demEnd) ]

/-- The register names of R23 with their numbers. -/
def intRegNames : List (String × Byte) :=
  [ ("STATUS", 0x00), ("SAMPLE_RATE", 0x01), ("BIT_RATE", 0x02), ("FREQ0", 0x03), ("FREQ1", 0x04), ("SPB", 0x05),
    ("K0", 0x06), ("K1", 0x07), ("CRC_STATE", 0x08), ("CRC_RESULT", 0x09), ("MOD_N", 0x0A), ("DEM_SKIP", 0x0B),
    ("DEM_WCNT", 0x0C), ("DEM_BSR", 0x0D), ("DEM_BCNT", 0x0E), ("DEM_LASTBIT", 0x0F), ("PKT_LEN", 0x10),
    ("PKT_CALC", 0x11) ]

/-- The register names of R41 with their numbers. -/
def sampleRegNames : List (String × Byte) :=
  [ ("S1_0", 0x00), ("S2_0", 0x01), ("S1_1", 0x02), ("S2_1", 0x03), ("POWER0", 0x04), ("POWER1", 0x05),
    ("COEFF0", 0x06), ("COEFF1", 0x07) ]

/-- An integer operand, decimal or hexadecimal (R91). -/
def intOperand : AsmOperand → Option Nat
  | .num n | .hex n => some n
  | .name _ | .sample _ => none

/-- An 8-bit operand; a larger number is an assembly error (R91). -/
def byteOperand (o : AsmOperand) : Except AsmError Byte :=
  match intOperand o with
  | some n => if fitsByte n then .ok (BitVec.ofNat 8 n) else .error .outOfRange
  | none => .error .badOperands

/-- A 32-bit operand; a larger number is an assembly error (R91). -/
def wordOperand (o : AsmOperand) : Except AsmError Word :=
  match intOperand o with
  | some n => if fitsWord n then .ok (BitVec.ofNat 32 n) else .error .outOfRange
  | none => .error .badOperands

/-- A register operand: a name from the table, or a number (R91). -/
def regOperand (names : List (String × Byte)) : AsmOperand → Except AsmError Byte
  | .name s =>
    match names.lookup s with
    | some n => .ok n
    | none => .error .unknownRegister
  | o => byteOperand o

/-- A sample operand: a decimal literal (R91), of an integer or not. Hexadecimal is for integer operands alone. -/
def sampleOperand : AsmOperand → Except AsmError Sample
  | .sample x => .ok x
  | .num n => .ok (Config.sampleOfDecimal false n 0)
  | .hex _ | .name _ => .error .badOperands

/-- The command of a mnemonic and its operands, in the order of R91's table. -/
def assembleOp (m : Mnemonic) (ops : List AsmOperand) : Except AsmError Instr :=
  match m, ops with
  | .nop, [] => .ok .nop
  | .reset, [] => .ok .reset
  | .regRd, [r] => (regOperand intRegNames r).map .regRd
  | .regWr, [r, v] => do return .regWr (← regOperand intRegNames r) (← wordOperand v)
  | .sregRd, [r] => (regOperand sampleRegNames r).map .sregRd
  | .crcInit, [] => .ok .crcInit
  | .crcByte, [b] => (byteOperand b).map .crcByte
  | .crcCheck, [e] => (wordOperand e).map .crcCheck
  | .bufWr, [a, b] => do return .bufWr (← byteOperand a) (← byteOperand b)
  | .bufRd, [a] => (byteOperand a).map .bufRd
  | .pktSeal, [] => .ok .pktSeal
  | .pktCheck, [n] => (wordOperand n).map .pktCheck
  | .modStart, [] => .ok .modStart
  | .modByte, [b] => (byteOperand b).map .modByte
  | .modEnd, [] => .ok .modEnd
  | .demStart, [] => .ok .demStart
  | .demSample, [x] => (sampleOperand x).map .demSample
  | .demEnd, [] => .ok .demEnd
  | _, _ => .error .badOperands

/-- A line assembled (R91). -/
def assemble (l : AsmLine) : Except AsmError Instr :=
  match mnemonicNames.lookup l.mnemonic with
  | some m => assembleOp m l.operands
  | none => .error .unknownMnemonic

/-! ### The text of a line (R91) -/

/-- White space is a space or a tab (DESIGN CHOICE, log 10). -/
def isBlank (c : Char) : Bool := c == ' ' || c == '\t'

/-- A text without the white space around it. -/
def trimBlank (cs : List Char) : List Char :=
  ((cs.dropWhile isBlank).reverse.dropWhile isBlank).reverse

/-- The value of a digit in a base of at most 16. -/
def digitValue (base : Nat) (c : Char) : Option Nat :=
  let v := if c.isDigit then some (c.toNat - '0'.toNat)
    else if 'a' ≤ c ∧ c ≤ 'f' then some (c.toNat - 'a'.toNat + 10)
    else if 'A' ≤ c ∧ c ≤ 'F' then some (c.toNat - 'A'.toNat + 10)
    else none
  v.filter (· < base)

/-- The number a sequence of digits writes. -/
def digitsFrom (base : Nat) : Nat → List Char → Option Nat
  | acc, [] => some acc
  | acc, c :: cs =>
    match digitValue base c with
    | some d => digitsFrom base (acc * base + d) cs
    | none => none

/-- A hexadecimal integer, after `0x` (R91). -/
def hexOf : List Char → Option Nat
  | '0' :: 'x' :: c :: cs => digitsFrom 16 0 (c :: cs)
  | _ => none

/-- A decimal integer (R91). -/
def decimalIntOf : List Char → Option Nat
  | [] => none
  | cs => digitsFrom 10 0 cs

/-- A decimal literal after its sign. R91 says "a decimal literal" and gives no form; here it is an optional `-`, at least
one digit, and optionally a point with digits or none after it: `1.` is one; `.5`, `+1` and an exponent are not.
DESIGN CHOICE (log 10). -/
def decimalOf (neg : Bool) (cs : List Char) : Option Sample :=
  let whole := cs.takeWhile (· != '.')
  let frac := (cs.dropWhile (· != '.')).drop 1
  if whole.isEmpty then none
  else (digitsFrom 10 0 (whole ++ frac)).map fun n => Config.sampleOfDecimal neg n frac.length

/-- One operand's text: an integer, a decimal literal, or a name. -/
def operandOf (cs : List Char) : Except AsmError AsmOperand :=
  match hexOf cs, decimalIntOf cs, cs with
  | some n, _, _ => .ok (.hex n)
  | none, some n, _ => .ok (.num n)
  | none, none, '-' :: rest =>
    match decimalOf true rest with
    | some x => .ok (.sample x)
    | none => .error .badText
  | none, none, c :: rest =>
    if c.isAlpha then
      (if rest.all fun d => d.isAlphanum || d == '_' then .ok (.name (String.ofList (c :: rest))) else .error .badText)
    else
      match decimalOf false (c :: rest) with
      | some x => .ok (.sample x)
      | none => .error .badText
  | none, none, [] => .error .badText

/-- The operands' texts, in order. -/
def operandsOf : List (List Char) → Except AsmError (List AsmOperand)
  | [] => .ok []
  | cs :: rest => do return (← operandOf (trimBlank cs)) :: (← operandsOf rest)

/-- The text of a line: `MNEMONIC [operand (, operand)*]` (R91). -/
def parseLine (text : String) : Except AsmError AsmLine :=
  let cs := trimBlank text.toList
  let mnemonic := cs.takeWhile fun c => !isBlank c
  let rest := trimBlank (cs.dropWhile fun c => !isBlank c)
  if rest.isEmpty then .ok ⟨String.ofList mnemonic, []⟩
  else (operandsOf (rest.splitOn ',')).map fun ops => ⟨String.ofList mnemonic, ops⟩

/-- A line of text assembled to the transaction the host sends (R80, R91). -/
def assembleText (text : String) : Except AsmError Transaction := do
  return encode (← assemble (← parseLine text))

/-! ### Pseudo-instructions (R92) -/

/-- `BUF_FILL a, s`: the bytes at rising addresses. -/
def bufFill : Byte → List Byte → List Instr
  | _, [] => []
  | a, b :: bs => .bufWr a b :: bufFill (a + 1) bs

/-- The header of a frame before its checksum: type, sequence number, payload length (R140, R92). -/
def frameHead (t : Byte) (q : Word) (p : List Byte) : List Byte :=
  [t] ++ be32 q ++ be16 (BitVec.ofNat 16 p.length)

/-- The expansion of R92. -/
def pseudoCommands : Pseudo → List Instr
  | .config fs br f0 f1 => [.regWr 0x01 fs, .regWr 0x02 br, .regWr 0x03 f0, .regWr 0x04 f1]
  | .crc32 s => [.crcInit] ++ s.map .crcByte ++ [.regRd 0x09]
  | .crcVerify s v => [.crcInit] ++ s.map .crcByte ++ [.crcCheck v]
  | .bufFill a s => bufFill a s
  | .pktBuild t q p => bufFill 0 (frameHead t q p) ++ bufFill 11 p ++ [.pktSeal]
  | .pktVerify f => bufFill 0 f ++ [.pktCheck (BitVec.ofNat 32 f.length)]
  | .modulate s => [.modStart] ++ s.map .modByte ++ [.modEnd]
  | .demodulate xs => [.demStart] ++ xs.map .demSample ++ [.demEnd]

/-- A pseudo-instruction expanded; one that breaks its size condition is an assembly error (R92). -/
def expandPseudo (p : Pseudo) : Except AsmError (List Instr) :=
  if p.wellFormed then .ok (pseudoCommands p) else .error .outOfRange

end Sys2Proof.Machine
end

