-- ==== Sys2Proof/Machine/Block.lean ====
section
/-! DEFINITION. The block for any numerics record (00_scope.md R7, R12): its samples have any type, its NUM is the
argument. The machine that the host runs is this one at the carrier `Sample` and the open record `Config.num`
(Laws/Block.lean). -/

namespace Sys2Proof.Machine

/-- "execute row.rule with A, B, data" (30_encoding.md R90), after the checks. The lane has the row's kind by then; the
arms for another kind answer what the checks answer. -/
def perform {α : Type} (N : Numerics α) (m : Mnemonic) (a b : Byte) (data : DataLane α) (s : State α) :
    Host.Outcome (State α) Fault Refusal :=
  match m, data with
  | .nop, _ => runNop s
  | .reset, _ => runReset N s
  | .regRd, _ => runRegRd b s
  | .regWr, .u32 v => runRegWr b v s
  | .regWr, _ => rejectIllegal s
  | .sregRd, _ => runSregRd N b s
  | .crcInit, _ => runCrcInit s
  | .crcByte, _ => runCrcByte b s
  | .crcCheck, .u32 e => runCrcCheck e s
  | .crcCheck, _ => rejectIllegal s
  | .bufWr, _ => runBufWr a b s
  | .bufRd, _ => runBufRd a s
  | .pktSeal, _ => runPktSeal s
  | .pktCheck, .u32 n => runPktCheck n s
  | .pktCheck, _ => rejectIllegal s
  | .modStart, _ => runModStart N s
  | .modByte, _ => runModByte N b s
  | .modEnd, _ => runModEnd s
  | .demStart, _ => runDemStart N s
  | .demSample, .sample x => runDemSample N x s
  | .demSample, _ => rejectIllegal s
  | .demEnd, _ => runDemEnd N s

/-- A transaction taken by the block over `N`: checked (R90) and executed, or answered ERR_ILLEGAL. -/
def acceptOver {α : Type} (N : Numerics α) (t : Transaction α) (s : State α) : Host.Outcome (State α) Fault Refusal :=
  match checkedRow t with
  | .ok m => perform N m (aField t.word) (bField t.word) t.data s
  | .error _ => rejectIllegal s

/-- One step of the block over `N`: the next transaction of its port (R20, R48), or none (log 1). -/
def stepOver {α : Type} (N : Numerics α) (s : State α) : Host.Outcome (State α) Fault Refusal :=
  match s.port with
  | [] => .next s
  | t :: rest => acceptOver N t { s with port := rest }

/-- The block over `N`, as a machine of the host's interface. -/
def blockOver {α : Type} (N : Numerics α) : Host.Core where
  State := State α
  Fault := Fault
  Refusal := Refusal
  step := stepOver N
  reset := powerOn N

end Sys2Proof.Machine
end

