-- ==== Sys2Proof/Machine/NumF64.lean ====
section
/-! DEFINITION. The named instance NUM_F64 of the numerics (00_scope.md R14): IEEE 754 binary64, rounding to
nearest, ties to even. It stands beside the machine: the machine runs on the open record `Config.num`, and a claim
over NUM_F64 is made about the functions of R174, R194 and R196, which take any record. -/

namespace Sys2Proof.Machine

/-- A binary64 datum. -/
abbrev F64 := BitVec 64

/-- The sign bit. -/
def f64Sign (x : F64) : Bool := x.getLsbD 63

/-- The biased exponent field. -/
def f64Exp (x : F64) : Nat := (x.extractLsb' 52 11).toNat

/-- The fraction field. -/
def f64Frac (x : F64) : Nat := (x.extractLsb' 0 52).toNat

/-- A NaN. -/
def f64IsNaN (x : F64) : Bool := f64Exp x == 2047 && f64Frac x != 0

/-- An infinity. -/
def f64IsInf (x : F64) : Bool := f64Exp x == 2047 && f64Frac x == 0

/-- Neither a NaN nor an infinity. -/
def f64IsFinite (x : F64) : Bool := f64Exp x != 2047

/-- The magnitude of a finite datum in units of 2^−1074, the least positive binary64. -/
def f64Units (x : F64) : Nat :=
  if f64Exp x = 0 then f64Frac x else (2 ^ 52 + f64Frac x) * 2 ^ (f64Exp x - 1)

/-- The signed value of a finite datum in units of 2^−1074. -/
def f64Int (x : F64) : Int := if f64Sign x then - (f64Units x : Int) else f64Units x

/-- The datum of a sign and the 63 bits below it. -/
def f64Make (neg : Bool) (mag : Nat) : F64 := BitVec.ofBool neg ++ BitVec.ofNat 63 mag

/-- The infinity of a sign. -/
def f64Inf (neg : Bool) : F64 := f64Make neg (2047 * 2 ^ 52)

/-- A quiet NaN; its sign and payload are free. They are one function of the two operands, the same for the addition and
the multiplication, and the subtraction gives what the addition gives of the negated operand: R14 says nothing of this.
DESIGN CHOICE (log 9). -/
def f64NaN (x y : F64) : F64 :=
  (Config.nanBits x y).extractLsb' 51 1 ++ (0xFFF : BitVec 12) ++ (Config.nanBits x y).extractLsb' 0 51

/-- `n / 2^d` rounded to nearest, a tie to even. -/
def divTiesEven (n d : Nat) : Nat :=
  let q := n / 2 ^ d
  let r := n % 2 ^ d
  if 2 * r > 2 ^ d ∨ (2 * r = 2 ^ d ∧ q % 2 = 1) then q + 1 else q

/-- The datum nearest to the magnitude n / 2^shift, in units of 2^−1074; an overflow gives the infinity. Adding
the rounded significand to the exponent carries a significand of 2^53 into the exponent. -/
def f64Round (neg : Bool) (n shift : Nat) : F64 :=
  let k := Nat.log2 n - (shift + 52)
  f64Make neg (min (k * 2 ^ 52 + divTiesEven n (shift + k)) (2047 * 2 ^ 52))

/-- The opposite sign. -/
def f64Neg (x : F64) : F64 := x ^^^ (0x8000000000000000 : F64)

/-- Addition. An exact zero sum is +0 unless both operands have the sign −. -/
def f64Add (x y : F64) : F64 :=
  if f64IsNaN x || f64IsNaN y then f64NaN x y
  else if f64IsInf x then (if f64IsInf y && f64Sign x != f64Sign y then f64NaN x y else x)
  else if f64IsInf y then y
  else
    let t := f64Int x + f64Int y
    if t = 0 then f64Make (f64Sign x && f64Sign y) 0 else f64Round (decide (t < 0)) t.natAbs 0

/-- Subtraction. -/
def f64Sub (x y : F64) : F64 := f64Add x (f64Neg y)

/-- Multiplication. -/
def f64Mul (x y : F64) : F64 :=
  let neg := f64Sign x != f64Sign y
  if f64IsNaN x || f64IsNaN y then f64NaN x y
  else if f64IsInf x then (if f64IsFinite y && f64Units y == 0 then f64NaN x y else f64Inf neg)
  else if f64IsInf y then (if f64Units x == 0 then f64NaN x y else f64Inf neg)
  else f64Round neg (f64Units x * f64Units y) 1074

/-- The datum's place in the order; both zeros have the same. -/
def f64Key (x : F64) : Int :=
  if f64Sign x then - ((x.extractLsb' 0 63).toNat : Int) else (x.extractLsb' 0 63).toNat

/-- The ordered comparison `x > y`: false when either is a NaN (R14). -/
def f64Gt (x y : F64) : Bool := !f64IsNaN x && !f64IsNaN y && decide (f64Key x > f64Key y)

/-- `NUM_F64` (R14): tone and gcoeff stay open. `zero` is +0, all bits 0: R12 says only "intended value 0" and R14 does
not say which of the two zeros it is. DESIGN CHOICE (log 9). -/
def numF64 : Numerics F64 where
  zero := 0
  add := f64Add
  sub := f64Sub
  mul := f64Mul
  gt := f64Gt
  tone := Config.toneF64
  gcoeff := Config.gcoeffF64

/-- The block over NUM_F64 (R7, R14). -/
def f64Block : Host.Core := blockOver numF64

end Sys2Proof.Machine
end

