-- ==== Sys2Proof/Machine/NumReal.lean ====
section
/-! DEFINITION. The named instance NUM_REAL of the numerics (00_scope.md R13), and the error bounds a claim over
NUM_F64 must name (R14). Real arithmetic cannot be evaluated, so these definitions are noncomputable; the machine
that the host runs does not use them (log 8). -/

namespace Sys2Proof.Machine

/-- `0.8 · sin(2π·f·n/fs)` (R12, R13). At fs = 0, where R12 does not define it, real division by 0 makes it 0.
DESIGN CHOICE (log 8); a legal configuration has fs ≥ 1. -/
noncomputable def realTone (f fs : Word) (n : Nat) : ℝ :=
  4 / 5 * Real.sin (2 * Real.pi * f.toNat * n / fs.toNat)

/-- `2·cos(2π·k/N)` (R12, R13). At N = 0, where R12 does not define it, real division by 0 makes it 2.
DESIGN CHOICE (log 8); a legal configuration has N ≥ 1. -/
noncomputable def realCoeff (k N : Nat) : ℝ := 2 * Real.cos (2 * Real.pi * k / N)

open Classical in
/-- `NUM_REAL` (R13). -/
noncomputable def numReal : Numerics ℝ where
  zero := 0
  add x y := x + y
  sub x y := x - y
  mul x y := x * y
  gt x y := decide (x > y)
  tone := realTone
  gcoeff := realCoeff

/-- The block over NUM_REAL (R7, R13). -/
noncomputable def realBlock : Host.Core := blockOver numReal

/-- The real value of a finite binary64 datum. -/
noncomputable def f64Value (x : F64) : ℝ := f64Int x / 2 ^ 1074

/-- `r` is a finite datum nearest to `e`, and where another value is as near (a tie), the even one: its last bit is 0
(R14). -/
def F64NearestEven (r : F64) (e : ℝ) : Prop :=
  ∀ z : F64, f64IsFinite z = true →
    |f64Value r - e| ≤ |f64Value z - e| ∧
    (f64Value z ≠ f64Value r → |f64Value r - e| = |f64Value z - e| → r.getLsbD 0 = false)

/-- The named bound on NUM_F64's tone (R14): `|tone f fs n − 0.8·sin(2π·f·n/fs)| ≤ ε`. -/
def F64ToneBound (ε : ℝ) : Prop :=
  ∀ (f fs : Word) (n : Nat), 1 ≤ fs.toNat →
    f64IsFinite (numF64.tone f fs n) = true ∧ |f64Value (numF64.tone f fs n) - realTone f fs n| ≤ ε

/-- The named bound on NUM_F64's gcoeff, as for tone (R14; 93_implementation_defined.md, part 1). -/
def F64CoeffBound (ε : ℝ) : Prop :=
  ∀ k N : Nat, 1 ≤ N →
    f64IsFinite (numF64.gcoeff k N) = true ∧ |f64Value (numF64.gcoeff k N) - realCoeff k N| ≤ ε

end Sys2Proof.Machine
end

