-- ==== Sys2Proof/Machine/Run.lean ====
section
/-! DEFINITION. Runs and what is observed of them (10_state.md R48, R49). -/

namespace Sys2Proof.Machine

/-- Commands executed one after another, each completely before the next (20_memory.md R71). -/
def execAll : List Instr → State → Host.Outcome State Fault Refusal
  | [], s => .next s
  | i :: is, s =>
    match exec i s with
    | .next t => execAll is t
    | .fault f => .fault f
    | .refused r => .refused r

/-- A run (R49): the host's transactions presented and taken in order. -/
def runTransactions (ts : List Transaction) (s : State) : Host.Outcome State Fault Refusal :=
  Sys2Proof.core.run ts.length (present ts s)

/-- The observation of a run (R49): the responses, the final logs and the final state. -/
structure Observation where
  /-- the responses, in order -/
  responses : List Response
  /-- the final TXLOG -/
  txlog : List Sample
  /-- the final RXLOG -/
  rxlog : List Byte
  /-- the final state -/
  final : State
  deriving DecidableEq, Repr

/-- What is observed of a run from `s` that ends in `t`: the responses given since `s`. -/
def observe (s t : State) : Observation :=
  ⟨t.responses.drop s.responses.length, t.txlog, t.rxlog, t⟩

end Sys2Proof.Machine
end

