-- ==== Sys2Proof/Safety.lean ====
section
/-! DEFINITION. What the claims speak of: the invariant that every run keeps, the parts of the state that belong to
one unit (for frames), and what it is for a command to change nothing. -/

namespace Sys2Proof.Machine

/-! ### The invariant -/

/-- Both filters' pairs are NUM.zero (R41). -/
def FiltersZero (s : State) : Prop :=
  s.s1_0 = Config.num.zero ∧ s.s2_0 = Config.num.zero ∧ s.s1_1 = Config.num.zero ∧ s.s2_1 = Config.num.zero

/-- An open modulation frame has a legal configuration and a whole number of bytes behind it, each of whole bits, so
MOD_N has never wrapped (R34, R175, R176). -/
def ModulatorOk (s : State) : Prop :=
  s.modActive = true → cfgLegal s.cfg = true ∧ ∃ k : Nat, s.modN.toNat = (16 + 8 * k) * spb s.cfg

/-- An open receive frame: a legal configuration, DEM_WCNT < SPB (R36), at most the preamble still to skip and nothing
decided while it is skipped (R35), DEM_BSR holding DEM_BCNT bits (R37), filters zero at a window's start (R192). -/
def DetectorOk (s : State) : Prop :=
  s.demActive = true →
    cfgLegal s.cfg = true ∧ s.demWcnt.toNat < spb s.cfg ∧ s.demSkip.toNat ≤ preambleSamples s.cfg ∧
    (s.demSkip ≠ 0 → s.demWcnt = 0 ∧ s.demBcnt = 0) ∧ s.demBsr.toNat < 2 ^ s.demBcnt.val ∧
    (s.demWcnt = 0 → FiltersZero s)

/-- With no receive frame open the detector's working registers are clear (R199, R250). -/
def DetectorIdle (s : State) : Prop :=
  s.demActive = false →
    s.demSkip = 0 ∧ s.demWcnt = 0 ∧ s.demBsr = 0 ∧ s.demBcnt = 0 ∧ FiltersZero s

/-- The invariant: PBUF in its canonical form, the two units as above, and PKT_LEN a payload length that a frame in
PBUF can have (R39, R145, R146). -/
def State.Inv (s : State) : Prop :=
  s.pbuf.wf ∧ ModulatorOk s ∧ DetectorOk s ∧ DetectorIdle s ∧ s.pktLen.toNat ≤ Config.maxPayload

/-! ### The units' parts of the state -/

/-- The configuration registers are the same (R25 to R28). -/
def SameConfig (s t : State) : Prop := t.cfg = s.cfg

/-- The CRC unit is the same (R32). -/
def SameCrc (s t : State) : Prop := t.crcState = s.crcState

/-- The modulator and its log are the same (R24, R34, R46). -/
def SameModulator (s t : State) : Prop :=
  t.modActive = s.modActive ∧ t.modN = s.modN ∧ t.txlog = s.txlog

/-- The detector and its log are the same (R24, R35 to R38, R41, R47). -/
def SameDetector (s t : State) : Prop :=
  t.demActive = s.demActive ∧ t.demSkip = s.demSkip ∧ t.demWcnt = s.demWcnt ∧ t.demBsr = s.demBsr ∧
  t.demBcnt = s.demBcnt ∧ t.demLastbit = s.demLastbit ∧ t.s1_0 = s.s1_0 ∧ t.s2_0 = s.s2_0 ∧ t.s1_1 = s.s1_1 ∧
  t.s2_1 = s.s2_1 ∧ t.power0 = s.power0 ∧ t.power1 = s.power1 ∧ t.rxlog = s.rxlog

/-- The packet unit's registers are the same (R39). -/
def SamePacket (s t : State) : Prop := t.pktLen = s.pktLen ∧ t.pktCalc = s.pktCalc

/-- Every byte of PBUF holds what it held (R44). -/
def SamePbuf (s t : State) : Prop := ∀ a, t.pbuf.find a = s.pbuf.find a

/-- Nothing of the block has changed: what R222 and R69 mean by "changes no state". -/
def SameBlock (s t : State) : Prop :=
  SameConfig s t ∧ SameCrc s t ∧ SameModulator s t ∧ SameDetector s t ∧ SamePacket s t ∧ SamePbuf s t

/-! ### What PBUF holds and what a command may read of it -/

/-- The bytes `bs` are written in PBUF from address `a` on. -/
def HoldsBytes (s : State) (a : Nat) (bs : List Byte) : Prop :=
  ∀ j v, bs[j]? = some v → s.pbuf.find (a + j) = some v

/-- `v` is a possible reading of PBUF: a written byte as it stands, any value for an unwritten one (R72). -/
def PossibleReading (s : State) (v : Nat → Byte) : Prop :=
  ∀ a b, s.pbuf.find a = some b → v a = b

/-! ### Encodings -/

/-- `x` is the encoding of the command `i`: that transaction and no other decodes to it (30_encoding.md R81, R90). -/
def EncodedAs (i : Instr) (x : Transaction) : Prop := ∀ y : Transaction, decode y = .ok i ↔ y = x

/-! ### Safe steps -/

/-- A step that neither faults nor is refused. -/
def SafeStep (s : State) : Prop := ∃ t, step s = .next t

/-- The last response given. -/
def lastResponse (t : State) : Option Response := t.responses.getLast?

end Sys2Proof.Machine
end

