-- ==== Sys2Proof/Certificates/Slice0/Obligations.lean ====
section
/-! DEFINITION. The statements for the provers. Each docstring names the rule of spec/ it formalises; one that rests on
an inference the spec marks as its own, or on a choice of the model, says so. -/

open Sys2Proof Sys2Proof.Machine

/-! ### Reset and control -/

/-- R250, R251, R101: every field after power-on and after the RESET command, and what each leaves alone. (CRC_TABLE is a
constant and no field: log 12.) -/
def Obligations.ResetTableHolds : Prop :=
  EncodedAs .reset ⟨0x01000000, .none⟩ ∧
  (∀ t : State, (t = State.reset ∨ ∃ s, exec .reset s = .next t) →
    t.sampleRate = 48000 ∧ t.bitRate = 1200 ∧ t.freq0 = 1200 ∧ t.freq1 = 2400 ∧ t.crcState = 0xFFFFFFFF ∧
    t.modActive = false ∧ t.demActive = false ∧ t.modN = 0 ∧ t.demSkip = 0 ∧ t.demWcnt = 0 ∧ t.demBsr = 0 ∧
    t.demBcnt = 0 ∧ t.demLastbit = 0 ∧ t.pktLen = 0 ∧ t.pktCalc = 0 ∧ FiltersZero t ∧
    t.power0 = Config.num.zero ∧ t.power1 = Config.num.zero) ∧
  ((∀ a, State.reset.pbuf.find a = none) ∧ State.reset.txlog = [] ∧ State.reset.rxlog = []) ∧
  (∀ s : State, ∃ t, exec .reset s = .next t ∧ t.pbuf = s.pbuf ∧ t.txlog = s.txlog ∧ t.rxlog = s.rxlog ∧
    t.responses = s.responses ++ [⟨.ok, .none⟩])

/-- 70_reset_and_hazards.md, the derived sentence that closes R250: the computed values after either reset ("The computed
values then follow: CFG_LEGAL = 1, SPB = 40, K0 = 1, K1 = 2, CRC_RESULT = 0"). -/
def Obligations.ComputedRegistersAfterReset : Prop :=
  ∀ t : State, (t = State.reset ∨ ∃ s, exec .reset s = .next t) →
    readReg .status t = 4 ∧ cfgLegal t.cfg = true ∧ readReg .spb t = 40 ∧ readReg .k0 t = 1 ∧ readReg .k1 t = 2 ∧
    readReg .crcResult t = 0 ∧ readSample Config.num .coeff0 t = Config.num.gcoeff 1 40 ∧
    readSample Config.num .coeff1 t = Config.num.gcoeff 2 40

/-- R100: NOP answers OK and changes nothing, in every state. -/
def Obligations.NopAnswersOkAndChangesNothing : Prop :=
  EncodedAs .nop ⟨0x00000000, .none⟩ ∧
  ∀ s : State, exec .nop s = .next (respond .ok .none s)

/-- R102: what REG_RD answers for each of the 256 register numbers; nothing changes. -/
def Obligations.RegRdAnswersEachRegister : Prop :=
  (∀ r : Byte, EncodedAs (.regRd r) ⟨(0x02 : Byte) ++ (0 : Byte) ++ (0 : Byte) ++ r, .none⟩) ∧
  ∀ s : State,
    let spbNow := if cfgLegal s.cfg then s.sampleRate.toNat / s.bitRate.toNat else 0
    let binNow := fun f : Word =>
      if cfgLegal s.cfg then (2 * (spbNow * f.toNat) + s.sampleRate.toNat) / (2 * s.sampleRate.toNat) else 0
    let gives := fun (r : Byte) (v : Word) => exec (.regRd r) s = .next (respond .ok (.u32 v) s)
    gives 0x00 (statusWord s) ∧ gives 0x01 s.sampleRate ∧ gives 0x02 s.bitRate ∧ gives 0x03 s.freq0 ∧
    gives 0x04 s.freq1 ∧ gives 0x05 (BitVec.ofNat 32 spbNow) ∧ gives 0x06 (BitVec.ofNat 32 (binNow s.freq0)) ∧
    gives 0x07 (BitVec.ofNat 32 (binNow s.freq1)) ∧ gives 0x08 s.crcState ∧
    gives 0x09 (s.crcState ^^^ 0xFFFFFFFF) ∧ gives 0x0A s.modN ∧ gives 0x0B s.demSkip ∧ gives 0x0C s.demWcnt ∧
    gives 0x0D (s.demBsr.setWidth 32) ∧ gives 0x0E (BitVec.ofNat 32 s.demBcnt.val) ∧
    gives 0x0F (s.demLastbit.setWidth 32) ∧ gives 0x10 (s.pktLen.setWidth 32) ∧ gives 0x11 s.pktCalc ∧
    ∀ r : Byte, 0x12 ≤ r.toNat → exec (.regRd r) s = .next (respond .errArg .none s)

/-- R103: what REG_WR does for each of the 256 register numbers, with and without a stream open. -/
def Obligations.RegWrWritesOrRefuses : Prop :=
  (∀ (r : Byte) (v : Word), EncodedAs (.regWr r v) ⟨(0x03 : Byte) ++ (0 : Byte) ++ (0 : Byte) ++ r, .u32 v⟩) ∧
  ∀ (s : State) (v : Word),
    (s.modActive = false → s.demActive = false →
      exec (.regWr 0x01 v) s = .next (respond .ok .none { s with sampleRate := v }) ∧
      exec (.regWr 0x02 v) s = .next (respond .ok .none { s with bitRate := v }) ∧
      exec (.regWr 0x03 v) s = .next (respond .ok .none { s with freq0 := v }) ∧
      exec (.regWr 0x04 v) s = .next (respond .ok .none { s with freq1 := v })) ∧
    (s.modActive = true ∨ s.demActive = true → ∀ r : Byte, 1 ≤ r.toNat → r.toNat ≤ 4 →
      exec (.regWr r v) s = .next (respond .errBusy .none s)) ∧
    exec (.regWr 0x08 v) s = .next (respond .ok .none { s with crcState := v }) ∧
    ∀ r : Byte, (r.toNat = 0 ∨ 5 ≤ r.toNat) → r.toNat ≠ 8 →
      exec (.regWr r v) s = .next (respond .errArg .none s)

/-- R104: what SREG_RD answers for each of the 256 numbers; nothing changes. -/
def Obligations.SregRdAnswersEachRegister : Prop :=
  (∀ r : Byte, EncodedAs (.sregRd r) ⟨(0x04 : Byte) ++ (0 : Byte) ++ (0 : Byte) ++ r, .none⟩) ∧
  ∀ s : State,
    let coeffNow := fun f : Word =>
      if cfgLegal s.cfg then
        Config.num.gcoeff
          ((2 * (s.sampleRate.toNat / s.bitRate.toNat * f.toNat) + s.sampleRate.toNat) / (2 * s.sampleRate.toNat))
          (s.sampleRate.toNat / s.bitRate.toNat)
      else Config.num.zero
    let gives := fun (r : Byte) (x : Sample) => exec (.sregRd r) s = .next (respond .ok (.sample x) s)
    gives 0x00 s.s1_0 ∧ gives 0x01 s.s2_0 ∧ gives 0x02 s.s1_1 ∧ gives 0x03 s.s2_1 ∧
    gives 0x04 s.power0 ∧ gives 0x05 s.power1 ∧ gives 0x06 (coeffNow s.freq0) ∧ gives 0x07 (coeffNow s.freq1) ∧
    ∀ r : Byte, 0x08 ≤ r.toNat → exec (.sregRd r) s = .next (respond .errArg .none s)

/-- R29: the legality predicate, and the two commands that answer ERR_CONFIG where it is false. -/
def Obligations.CfgLegalIsThePredicate : Prop :=
  (∀ c : Cfg, cfgLegal c = true ↔
    c.sampleRate.toNat ≥ 1 ∧ c.bitRate.toNat ≥ 1 ∧ c.sampleRate.toNat % c.bitRate.toNat = 0 ∧
      c.sampleRate.toNat / c.bitRate.toNat ≤ 2 ^ 20) ∧
  ∀ s : State, cfgLegal s.cfg = false →
    (s.modActive = false → exec .modStart s = .next (respond .errConfig .none s)) ∧
    (s.demActive = false → exec .demStart s = .next (respond .errConfig .none s))

/-- R24: the bits of STATUS, their reset values, and the five commands that alone write the two stored ones. -/
def Obligations.StatusBitsAndTheirWriters : Prop :=
  (∀ s : State,
    (statusWord s).getLsbD 0 = s.modActive ∧ (statusWord s).getLsbD 1 = s.demActive ∧
    (statusWord s).getLsbD 2 = cfgLegal s.cfg ∧ ∀ k, 3 ≤ k → (statusWord s).getLsbD k = false) ∧
  (State.reset.modActive = false ∧ State.reset.demActive = false) ∧
  ∀ (i : Instr) (s t : State), exec i s = .next t →
    (t.modActive ≠ s.modActive →
      (i = .modStart ∧ t.modActive = true) ∨ (i = .modEnd ∧ t.modActive = false) ∨
        (i = .reset ∧ t.modActive = false)) ∧
    (t.demActive ≠ s.demActive →
      (i = .demStart ∧ t.demActive = true) ∨ (i = .demEnd ∧ t.demActive = false) ∨
        (i = .reset ∧ t.demActive = false))

/-! ### The CRC unit -/

/-- R124, R125, R126: the three CRC commands. -/
def Obligations.CrcCommandsActOnCrcState : Prop :=
  EncodedAs .crcInit ⟨0x10000000, .none⟩ ∧
  (∀ b : Byte, EncodedAs (.crcByte b) ⟨(0x11 : Byte) ++ (0 : Byte) ++ (0 : Byte) ++ b, .none⟩) ∧
  (∀ e : Word, EncodedAs (.crcCheck e) ⟨0x12000000, .u32 e⟩) ∧
  ∀ s : State,
    exec .crcInit s = .next (respond .ok .none { s with crcState := 0xFFFFFFFF }) ∧
    (∀ b, exec (.crcByte b) s = .next (respond .ok .none { s with crcState := crcStep s.crcState b })) ∧
    ∀ e, exec (.crcCheck e) s =
      .next (respond (if s.crcState ^^^ 0xFFFFFFFF = e then .ok else .integrityError)
        (.u32 (s.crcState ^^^ 0xFFFFFFFF)) s)

/-- 41_crc.md rules R121 to R123, which the spec supplies from general knowledge: the table by its loop, with the values
the rule lists; the byte step; the function, with the empty sequence and the check value. -/
def Obligations.CrcTableAndFunction : Prop :=
  (∀ i : Byte, crcTable i =
    (List.range 8).foldl (fun (c : Word) _ => if c.getLsbD 0 then (c >>> 1) ^^^ 0xEDB88320 else c >>> 1)
      (i.setWidth 32)) ∧
  crcTable 0 = 0x00000000 ∧ crcTable 1 = 0x77073096 ∧ crcTable 2 = 0xEE0E612C ∧ crcTable 3 = 0x990951BA ∧
  crcTable 4 = 0x076DC419 ∧ crcTable 8 = 0x0EDB8832 ∧ crcTable 16 = 0x1DB71064 ∧ crcTable 128 = 0xEDB88320 ∧
  crcTable 255 = 0x2D02EF8D ∧
  (∀ (c : Word) (b : Byte), crcStep c b = crcTable ((c ^^^ b.setWidth 32).extractLsb' 0 8) ^^^ (c >>> 8)) ∧
  (∀ bs : List Byte, crc32 bs = bs.foldl crcStep 0xFFFFFFFF ^^^ 0xFFFFFFFF) ∧
  crc32 [] = 0 ∧ crc32 [0x31, 0x32, 0x33, 0x34, 0x35, 0x36, 0x37, 0x38, 0x39] = 0xCBF43926

/-- 41_crc.md rule R122: the table-driven byte step is eight bit steps, bit 0 of the byte first. The spec gives the
equivalence from general knowledge ("This step equals eight bit steps with the reflected polynomial"). -/
def Obligations.CrcStepIsEightBitSteps : Prop :=
  ∀ (c : Word) (b : Byte),
    crcStep c b = (List.range 8).foldl
      (fun (d : Word) j => if (d.getLsbD 0 ^^ b.getLsbD j) then (d >>> 1) ^^^ 0xEDB88320 else d >>> 1) c

/-- 41_crc.md rule R127, which the spec derives: the canonical sequence leaves the CRC of the bytes, answers OK to every
command, and changes nothing else. -/
def Obligations.CrcSequenceComputesCrc32 : Prop :=
  ∀ (bs : List Byte) (s : State), ∃ t, execAll (.crcInit :: bs.map .crcByte) s = .next t ∧
    t = { s with
      crcState := bs.foldl crcStep 0xFFFFFFFF
      responses := s.responses ++ List.replicate (bs.length + 1) ⟨.ok, .none⟩ } ∧
    readReg .crcResult t = crc32 bs

/-- 41_crc.md rule R128, which the spec gives from general knowledge: two byte sequences that differ in one bit have
different checksums. -/
def Obligations.CrcDetectsEverySingleBitError : Prop :=
  ∀ (front back : List Byte) (b : Byte) (k : Nat), k < 8 →
    crc32 (front ++ (b ^^^ (1 <<< k)) :: back) ≠ crc32 (front ++ b :: back)

/-- 10_state.md rule R32: only CRC_INIT, CRC_BYTE, REG_WR CRC_STATE and RESET change CRC_STATE, and PKT_SEAL and
PKT_CHECK do not read it. The two runs compared read the same draws where a byte was never written: the model's choice,
log 4. -/
def Obligations.CrcStateIsIndependentOfThePacketUnit : Prop :=
  (∀ (i : Instr) (s t : State), exec i s = .next t → t.crcState ≠ s.crcState →
    i = .crcInit ∨ i = .reset ∨ (∃ b, i = .crcByte b) ∨ ∃ v, i = .regWr 0x08 v) ∧
  ∀ (i : Instr) (s t : State) (c : Word), (i = .pktSeal ∨ ∃ m, i = .pktCheck m) → exec i s = .next t →
    exec i { s with crcState := c } = .next { t with crcState := c }

/-! ### The packet unit -/

/-- R143: BUF_WR writes one byte of PBUF and nothing else. -/
def Obligations.BufWrWritesOneByte : Prop :=
  (∀ a b : Byte, EncodedAs (.bufWr a b) ⟨(0x20 : Byte) ++ (0 : Byte) ++ a ++ b, .none⟩) ∧
  ∀ (a b : Byte) (s : State), ∃ m : Memory,
    exec (.bufWr a b) s = .next (respond .ok .none { s with pbuf := m }) ∧
    ∀ x, m.find x = if x = a.toNat then some b else s.pbuf.find x

/-- R144: BUF_RD answers the byte; an unwritten one reads as some byte, which only the count of draws records. -/
def Obligations.BufRdReadsOneByte : Prop :=
  (∀ a : Byte, EncodedAs (.bufRd a) ⟨(0x21 : Byte) ++ (0 : Byte) ++ a ++ (0 : Byte), .none⟩) ∧
  ∀ (a : Byte) (s : State),
    (∀ v, s.pbuf.find a.toNat = some v →
      exec (.bufRd a) s = .next (respond .ok (.u32 (v.setWidth 32)) s)) ∧
    (s.pbuf.find a.toNat = none →
      ∃ d : Byte, exec (.bufRd a) s =
        .next (respond .ok (.u32 (d.setWidth 32)) { s with draws := s.draws + 1 }))

/-- R145: PKT_SEAL in every state, for some possible reading of PBUF (each byte is read at most once, so one value
stands for each byte, R72): the verdict, or the checksum stored big-endian at 7 to 10 and recorded. -/
def Obligations.PktSealSealsWhatItReads : Prop :=
  EncodedAs .pktSeal ⟨0x22000000, .none⟩ ∧
  ∀ s : State, ∃ (v : Nat → Byte) (n : Nat), PossibleReading s v ∧
    let len := (v 5).toNat * 256 + (v 6).toNat
    let c := crc32 ((List.range 7).map v ++ (List.range len).map fun j => v (11 + j))
    if len > 245 then exec .pktSeal s = .next (respond .payloadTooLarge .none { s with draws := n })
    else ∃ m : Memory,
      exec .pktSeal s = .next (respond .ok (.u32 c)
        { s with pbuf := m, pktLen := BitVec.ofNat 16 len, pktCalc := c, draws := n }) ∧
      ∀ a, m.find a =
        if a = 7 then some (c.extractLsb' 24 8) else if a = 8 then some (c.extractLsb' 16 8)
        else if a = 9 then some (c.extractLsb' 8 8) else if a = 10 then some (c.extractLsb' 0 8)
        else s.pbuf.find a

/-- 42_packet.md R145 where every covered byte is written: PKT_SEAL completes with the checksum of the header's first
seven bytes and the payload. -/
def Obligations.PktSealCompletesOnAWrittenFrame : Prop :=
  ∀ (s : State) (head payload : List Byte),
    head.length = 7 → readBE (head.drop 5) = payload.length → payload.length ≤ 245 →
    HoldsBytes s 0 head → HoldsBytes s 11 payload →
    ∃ m : Memory,
      exec .pktSeal s = .next (respond .ok (.u32 (crc32 (head ++ payload)))
        { s with
          pbuf := m, pktLen := BitVec.ofNat 16 payload.length, pktCalc := crc32 (head ++ payload) }) ∧
      HoldsBytes { s with pbuf := m } 7 (be32 (crc32 (head ++ payload))) ∧
      ∀ a, a < 7 ∨ 10 < a → m.find a = s.pbuf.find a

/-- R146: PKT_CHECK in every state and for every m. R146 reads bytes 5 and 6 for the length and again among the covered
bytes, so two possible readings of PBUF stand in it; it holds whichever reading of log 5 is right (v = w is allowed). -/
def Obligations.PktCheckVerifiesWhatItReads : Prop :=
  (∀ m : Word, EncodedAs (.pktCheck m) ⟨0x23000000, .u32 m⟩) ∧
  ∀ (s : State) (m : Word),
    (m.toNat > 256 → exec (.pktCheck m) s = .next (respond .errArg .none s)) ∧
    (m.toNat < 11 → exec (.pktCheck m) s = .next (respond .framingError .none s)) ∧
    (11 ≤ m.toNat → m.toNat ≤ 256 →
      ∃ (v w : Nat → Byte) (n : Nat), PossibleReading s v ∧ PossibleReading s w ∧
        let len := (v 5).toNat * 256 + (v 6).toNat
        let c := crc32 ((List.range 7).map w ++ (List.range len).map fun j => w (11 + j))
        if len > m.toNat - 11 then
          exec (.pktCheck m) s = .next (respond .framingError .none { s with draws := n })
        else
          exec (.pktCheck m) s = .next
            (respond (if c.toNat = readBE [w 7, w 8, w 9, w 10] then .ok else .integrityError) (.u32 c)
              { s with pktLen := BitVec.ofNat 16 len, pktCalc := c, draws := n }))

/-- 42_packet.md R146 and R147 where the frame is written: the verdict is that of the frame's own checksum (R142),
whatever its type byte and whatever follows the payload. -/
def Obligations.PktCheckCompletesOnAWrittenFrame : Prop :=
  ∀ (s : State) (m : Word) (f : List Byte),
    HoldsBytes s 0 f → 11 ≤ f.length → readBE ((f.drop 5).take 2) = f.length - 11 →
    f.length ≤ m.toNat → m.toNat ≤ 256 →
    exec (.pktCheck m) s = .next
      (respond (if (checksum f).toNat = readBE ((f.drop 7).take 4) then .ok else .integrityError)
        (.u32 (checksum f))
        { s with pktLen := BitVec.ofNat 16 (f.length - 11), pktCalc := checksum f })

/-- 42_packet.md rule R148, which the spec derives: PKT_BUILD leaves the serialized packet in PBUF. -/
def Obligations.PktBuildSerializesThePacket : Prop :=
  ∀ (ty : Byte) (q : Word) (p : List Byte) (s : State), p.length ≤ 245 →
    let c := crc32 (frameHead ty q p ++ p)
    ∃ is t, expandPseudo (.pktBuild ty q p) = .ok is ∧ execAll is s = .next t ∧
      HoldsBytes t 0 ([ty] ++ be32 q ++ be16 (BitVec.ofNat 16 p.length) ++ be32 c ++ p) ∧
      lastResponse t = some ⟨.ok, .u32 c⟩ ∧
      t.pktLen.toNat = p.length ∧ t.pktCalc = c ∧ (∀ a, 11 + p.length ≤ a → t.pbuf.find a = s.pbuf.find a) ∧
      SameConfig s t ∧ SameCrc s t ∧ SameModulator s t ∧ SameDetector s t

/-- 42_packet.md rule R149(a), which the spec derives: a packet built is a packet accepted. -/
def Obligations.BuiltPacketIsAccepted : Prop :=
  ∀ (ty : Byte) (q : Word) (p : List Byte) (s : State), p.length ≤ 245 →
    ∃ t, execAll (pseudoCommands (.pktBuild ty q p) ++ [.pktCheck (BitVec.ofNat 32 (11 + p.length))]) s = .next t ∧
      lastResponse t = some ⟨.ok, .u32 (crc32 (frameHead ty q p ++ p))⟩

/-- 42_packet.md rule R149(b), which the spec derives: one flipped bit of an accepted frame of m bytes. Outside the length
field and inside the frame it is always found; a trailing byte is not seen; in the length field it depends on the
length it makes. -/
def Obligations.SingleBitCorruptionVerdicts : Prop :=
  ∀ (s : State) (m : Word) (f : List Byte) (o k : Nat) (b : Byte),
    11 ≤ f.length → f.length ≤ 256 → m.toNat = f.length → HoldsBytes s 0 f →
    (∃ t c, exec (.pktCheck m) s = .next t ∧ lastResponse t = some ⟨.ok, c⟩) →
    f[o]? = some b → k < 8 →
    let bad := memWrite (BitVec.ofNat 8 o) (b ^^^ (1 <<< k)) s
    let end_ := 11 + readBE ((f.drop 5).take 2)
    let newLen := readBE (((f.set o (b ^^^ (1 <<< k))).drop 5).take 2)
    ∃ t r, exec (.pktCheck m) bad = .next t ∧ lastResponse t = some r ∧
      (o < end_ → o ≠ 5 → o ≠ 6 → r.code = .integrityError) ∧
      (end_ ≤ o → r.code = .ok) ∧
      (o = 5 ∨ o = 6 → newLen > m.toNat - 11 → r.code = .framingError) ∧
      (o = 5 ∨ o = 6 → newLen ≤ m.toNat - 11 → r.code = .ok ∨ r.code = .integrityError)

/-- 20_memory.md rule R72: a written byte of PBUF stays written; only BUF_WR of that byte and, for bytes 7 to 10, a
PKT_SEAL that completes make an unwritten byte written. -/
def Obligations.WrittenBytesStayWritten : Prop :=
  ∀ (i : Instr) (s t : State) (a : Nat), exec i s = .next t →
    ((s.pbuf.find a).isSome = true → (t.pbuf.find a).isSome = true) ∧
    (t.pbuf.find a ≠ s.pbuf.find a →
      (∃ x b, i = .bufWr x b ∧ a = x.toNat ∧ t.pbuf.find a = some b) ∨
      (i = .pktSeal ∧ 7 ≤ a ∧ a ≤ 10 ∧ ∃ d, lastResponse t = some ⟨.ok, d⟩))

/-! ### The modulator -/

/-- R175: MOD_START. -/
def Obligations.ModStartSendsThePreamble : Prop :=
  EncodedAs .modStart ⟨0x30000000, .none⟩ ∧
  ∀ s : State,
    let n := s.sampleRate.toNat / s.bitRate.toNat
    (s.modActive = true → exec .modStart s = .next (respond .errState .none s)) ∧
    (s.modActive = false → cfgLegal s.cfg = false → exec .modStart s = .next (respond .errConfig .none s)) ∧
    (s.modActive = false → cfgLegal s.cfg = true →
      exec .modStart s = .next (respond .ok .none
        { s with
          modActive := true
          modN := BitVec.ofNat 32 (16 * n)
          txlog := s.txlog ++ (List.range (16 * n)).map fun j =>
            Config.num.tone (if j / n % 2 = 0 then s.freq1 else s.freq0) s.sampleRate j }))

/-- R176: MOD_BYTE sends the byte's bits, bit 7 first, from MOD_N on. -/
def Obligations.ModByteSendsTheByte : Prop :=
  (∀ b : Byte, EncodedAs (.modByte b) ⟨(0x31 : Byte) ++ (0 : Byte) ++ (0 : Byte) ++ b, .none⟩) ∧
  ∀ (b : Byte) (s : State),
    let n := spb s.cfg
    (s.modActive = false → exec (.modByte b) s = .next (respond .errState .none s)) ∧
    (s.modActive = true → s.modN.toNat + 8 * n > 2 ^ 32 - 1 →
      exec (.modByte b) s = .next (respond .errOverflow .none s)) ∧
    (s.modActive = true → s.modN.toNat + 8 * n ≤ 2 ^ 32 - 1 →
      exec (.modByte b) s = .next (respond .ok .none
        { s with
          modN := BitVec.ofNat 32 (s.modN.toNat + 8 * n)
          txlog := s.txlog ++ (List.range (8 * n)).map fun j =>
            Config.num.tone (if b.getLsbD (7 - j / n) then s.freq1 else s.freq0) s.sampleRate (s.modN.toNat + j) }))

/-- R177: MOD_END. -/
def Obligations.ModEndClosesTheFrame : Prop :=
  EncodedAs .modEnd ⟨0x32000000, .none⟩ ∧
  ∀ s : State,
    (s.modActive = false → exec .modEnd s = .next (respond .errState .none s)) ∧
    (s.modActive = true → exec .modEnd s = .next (respond .ok .none { s with modActive := false }))

/-- 43_modulator.md rules R178 and R179, which the spec derives: the command stream emits exactly `modulate`. -/
def Obligations.ModulateStreamEmitsModulate : Prop :=
  ∀ (bs : List Byte) (s : State),
    s.modActive = false → cfgLegal s.cfg = true → (16 + 8 * bs.length) * spb s.cfg ≤ 2 ^ 32 - 1 →
    execAll (pseudoCommands (.modulate bs)) s = .next
      { s with
        modN := BitVec.ofNat 32 ((16 + 8 * bs.length) * spb s.cfg)
        txlog := s.txlog ++ modulate Config.num s.cfg bs
        responses := s.responses ++ List.replicate (bs.length + 2) ⟨.ok, .none⟩ } ∧
    (modulate Config.num s.cfg bs).length = (16 + 8 * bs.length) * spb s.cfg

/-- 43_modulator.md rule R180, which the spec derives: under NUM_REAL every emitted sample lies in [−0.8, 0.8]. -/
def Obligations.RealSamplesStayInRange : Prop :=
  ∀ (c : Cfg) (bs : List Byte), ∀ x ∈ modulate numReal c bs, -(4 / 5) ≤ x ∧ x ≤ 4 / 5

/-- 43_modulator.md rule R181, which the spec derives: where both tones make whole cycles in a bit, every window of a bit
value holds the same samples and starts at 0. -/
def Obligations.WholeCycleWindowsRepeat : Prop :=
  ∀ (c : Cfg) (v : Bool), cfgLegal c = true → ((c.freq v).toNat * spb c) % c.sampleRate.toNat = 0 →
    ∀ j : Nat, bitSamples numReal c v (j * spb c) = bitSamples numReal c v 0 ∧
      toneSample numReal c v (j * spb c) = 0

/-! ### The detector -/

/-- R197: DEM_START. -/
def Obligations.DemStartOpensTheFrame : Prop :=
  EncodedAs .demStart ⟨0x40000000, .none⟩ ∧
  ∀ s : State,
    (s.demActive = true → exec .demStart s = .next (respond .errState .none s)) ∧
    (s.demActive = false → cfgLegal s.cfg = false → exec .demStart s = .next (respond .errConfig .none s)) ∧
    (s.demActive = false → cfgLegal s.cfg = true →
      exec .demStart s = .next (respond .ok .none
        { s with
          demSkip := BitVec.ofNat 32 (16 * (s.sampleRate.toNat / s.bitRate.toNat))
          demWcnt := 0, demBsr := 0, demBcnt := 0
          s1_0 := Config.num.zero, s2_0 := Config.num.zero, s1_1 := Config.num.zero, s2_1 := Config.num.zero
          demActive := true }))

/-- R198: DEM_SAMPLE, in every state whose DEM_WCNT can still count (R36 keeps it below SPB; log 7). -/
def Obligations.DemSampleTakesOneSample : Prop :=
  (∀ x : Sample, EncodedAs (.demSample x) ⟨0x41000000, .sample x⟩) ∧
  ∀ (x : Sample) (s : State),
    (s.demActive = false → exec (.demSample x) s = .next (respond .errState .none s)) ∧
    (s.demActive = true → s.demSkip ≠ 0 →
      exec (.demSample x) s = .next (respond .ok .none { s with demSkip := s.demSkip - 1 })) ∧
    (s.demActive = true → s.demSkip = 0 → s.demWcnt.toNat < 2 ^ 32 - 1 →
      let N := Config.num
      let k0 := coeff N s.cfg false
      let k1 := coeff N s.cfg true
      let a0 := N.sub (N.add x (N.mul k0 s.s1_0)) s.s2_0
      let a1 := N.sub (N.add x (N.mul k1 s.s1_1)) s.s2_1
      let p0 := N.sub (N.add (N.mul a0 a0) (N.mul s.s1_0 s.s1_0)) (N.mul (N.mul k0 a0) s.s1_0)
      let p1 := N.sub (N.add (N.mul a1 a1) (N.mul s.s1_1 s.s1_1)) (N.mul (N.mul k1 a1) s.s1_1)
      let v := N.gt p1 p0
      let bsr := (s.demBsr <<< 1) ||| (if v then 1 else 0)
      exec (.demSample x) s = .next (respond .ok .none
        (if s.demWcnt.toNat + 1 ≠ spb s.cfg then
          { s with s1_0 := a0, s2_0 := s.s1_0, s1_1 := a1, s2_1 := s.s1_1, demWcnt := s.demWcnt + 1 }
        else
          { s with
            s1_0 := N.zero, s2_0 := N.zero, s1_1 := N.zero, s2_1 := N.zero, demWcnt := 0
            power0 := p0, power1 := p1, demLastbit := if v then 1 else 0
            demBsr := if s.demBcnt = 7 then 0 else bsr
            demBcnt := if s.demBcnt = 7 then 0 else s.demBcnt + 1
            rxlog := if s.demBcnt = 7 then s.rxlog ++ [bsr] else s.rxlog })))

/-- R199: DEM_END. -/
def Obligations.DemEndClosesTheFrame : Prop :=
  EncodedAs .demEnd ⟨0x42000000, .none⟩ ∧
  ∀ s : State,
    (s.demActive = false → exec .demEnd s = .next (respond .errState .none s)) ∧
    (s.demActive = true →
      exec .demEnd s = .next (respond .ok .none
        { s with
          demSkip := 0, demWcnt := 0, demBsr := 0, demBcnt := 0
          s1_0 := Config.num.zero, s2_0 := Config.num.zero, s1_1 := Config.num.zero, s2_1 := Config.num.zero
          demActive := false }))

/-- R43: the powers change only at the DEM_SAMPLE that completes a window, or at RESET, and that DEM_SAMPLE writes
both, from the filters' states after its sample. The first clause is about states whose DEM_WCNT can still count (R36 keeps
it below SPB; log 7). -/
def Obligations.PowersChangeOnlyAtAWindowsEnd : Prop :=
  (∀ (i : Instr) (s t : State), s.demWcnt.toNat < 2 ^ 32 - 1 → exec i s = .next t →
    (t.power0 ≠ s.power0 ∨ t.power1 ≠ s.power1) →
    i = .reset ∨
      ((∃ x, i = .demSample x) ∧ s.demActive = true ∧ s.demSkip = 0 ∧ s.demWcnt.toNat + 1 = spb s.cfg)) ∧
  ∀ (x : Sample) (s : State), s.demActive = true → s.demSkip = 0 → s.demWcnt.toNat + 1 = spb s.cfg →
    let u := feedFilters Config.num x s
    ∃ t, exec (.demSample x) s = .next t ∧
      t.power0 = power Config.num u.s1_0 u.s2_0 (readSample Config.num .coeff0 s) ∧
      t.power1 = power Config.num u.s1_1 u.s2_1 (readSample Config.num .coeff1 s)

/-- 44_detector.md rule R200, which the spec derives: the command stream emits exactly `demodulate`, and the rest of the
block is untouched. -/
def Obligations.DemodulateStreamEmitsDemodulate : Prop :=
  ∀ (xs : List Sample) (s : State), s.demActive = false → cfgLegal s.cfg = true →
    ∃ t, execAll (pseudoCommands (.demodulate xs)) s = .next t ∧
      t.rxlog = s.rxlog ++ demodulate Config.num s.cfg xs ∧ t.demActive = false ∧
      t.responses = s.responses ++ List.replicate (xs.length + 2) ⟨.ok, .none⟩ ∧
      SameConfig s t ∧ SameCrc s t ∧ SameModulator s t ∧ SamePacket s t ∧ SamePbuf s t

/-- 44_detector.md rule R194, its second sentence, which the spec gives from general knowledge: under NUM_REAL the
Goertzel power is the power of a DFT bin of the window. -/
def Obligations.GoertzelIsTheDftBinPower : Prop :=
  ∀ (c : Cfg) (w : List ℝ) (v : Bool), cfgLegal c = true → w.length = spb c →
    goertzel numReal c w v =
      (∑ n ∈ Finset.range w.length, w.getD n 0 * Real.cos (2 * Real.pi * binIndex c v * n / spb c)) ^ 2 +
      (∑ n ∈ Finset.range w.length, w.getD n 0 * Real.sin (2 * Real.pi * binIndex c v * n / spb c)) ^ 2

/-- 44_detector.md rule R201, which the spec derives: the noiseless round trip at the default configuration. -/
def Obligations.NoiselessRoundTripAtTheDefaults : Prop :=
  ∀ bs : List Byte,
    demodulate numReal ⟨48000, 1200, 1200, 2400⟩ (modulate numReal ⟨48000, 1200, 1200, 2400⟩ bs) = bs

/-- 44_detector.md rule R202, which the spec derives: with coinciding bins every bit decides 0. -/
def Obligations.CoincidingBinsDecodeToZeros : Prop :=
  ∀ (c : Cfg) (bs : List Byte), cfgLegal c = true → binIndex c false = binIndex c true →
    demodulate numReal c (modulate numReal c bs) = List.replicate bs.length 0

/-- 10_state.md rule R31, its derived sentence: a bin index is f / BIT_RATE rounded half up, at most f, and K0 and K1 read
it without loss. -/
def Obligations.BinIndexFitsItsRegister : Prop :=
  ∀ s : State, cfgLegal s.cfg = true →
    (∀ v : Bool,
      binIndex s.cfg v = (2 * (s.cfg.freq v).toNat + s.bitRate.toNat) / (2 * s.bitRate.toNat) ∧
      binIndex s.cfg v ≤ (s.cfg.freq v).toNat) ∧
    (readReg .k0 s).toNat = binIndex s.cfg false ∧ (readReg .k1 s).toNat = binIndex s.cfg true

/-! ### The binary64 instance -/

/-- 70_reset_and_hazards.md rule R265, which the spec derives: a NaN or an infinity anywhere in a window makes its bit 0. -/
def Obligations.NonFiniteSampleDecidesZero : Prop :=
  ∀ (c : Cfg) (w : List F64) (x : F64), x ∈ w → f64IsFinite x = false → decideBit numF64 c w = false

/-- 00_scope.md rule R14: `gt` is the IEEE ordered comparison: false on a NaN, by value on finite data, +∞ above and −∞
below every other datum that is no NaN, and an infinity not above itself. -/
def Obligations.F64GtIsTheOrderedComparison : Prop :=
  ∀ x y : F64,
    (f64IsNaN x = true ∨ f64IsNaN y = true → numF64.gt x y = false) ∧
    (f64IsFinite x = true → f64IsFinite y = true → (numF64.gt x y = true ↔ f64Value x > f64Value y)) ∧
    (f64IsInf x = true → f64IsNaN y = false → y ≠ x →
      (f64Sign x = false → numF64.gt x y = true ∧ numF64.gt y x = false) ∧
      (f64Sign x = true → numF64.gt x y = false ∧ numF64.gt y x = true)) ∧
    (f64IsInf x = true → numF64.gt x x = false)

/-- 00_scope.md rule R14: a finite sum, difference or product is the binary64 nearest to the exact one, the even one at a
tie; the sign of NaNs and their payload are the model's free values (log 9) and are not spoken of. -/
def Obligations.F64RoundsToNearest : Prop :=
  ∀ x y : F64, f64IsFinite x = true → f64IsFinite y = true →
    (f64IsFinite (numF64.add x y) = true → F64NearestEven (numF64.add x y) (f64Value x + f64Value y)) ∧
    (f64IsFinite (numF64.sub x y) = true → F64NearestEven (numF64.sub x y) (f64Value x - f64Value y)) ∧
    (f64IsFinite (numF64.mul x y) = true → F64NearestEven (numF64.mul x y) (f64Value x * f64Value y))

/-! ### Every command -/

/-- R220: every command ends with exactly one response, its code in one of three classes. The data has the kind that R85
and the column "out" of R87 give, and nothing further is taken from the port (the model's own field, log 1). -/
def Obligations.EveryCommandAnswersOnce : Prop :=
  ∀ (i : Instr) (s : State), ∃ t r, exec i s = .next t ∧ t.responses = s.responses ++ [r] ∧ t.port = s.port ∧
    (respCodeClass r.code = .success ↔ r.code = .ok) ∧
    (respCodeClass r.code = .verdict ↔
      r.code = .payloadTooLarge ∨ r.code = .framingError ∨ r.code = .integrityError) ∧
    (respCodeClass r.code = .error ↔
      r.code = .errIllegal ∨ r.code = .errArg ∨ r.code = .errState ∨ r.code = .errBusy ∨ r.code = .errConfig ∨
        r.code = .errOverflow) ∧
    (r.code = .ok → r.data.kind = i.mnemonic.laneOut) ∧
    (r.code = .integrityError → r.data.kind = .u32) ∧
    (r.code = .payloadTooLarge ∨ r.code = .framingError ∨ respCodeClass r.code = .error → r.data = .none)

/-- R86: the values and the classes of the response codes; the reserved values are never returned (R85: the response
word holds the code in bits 3:0). -/
def Obligations.ResponseCodeValues : Prop :=
  (respCodeBits .ok = 0x0 ∧ respCodeBits .payloadTooLarge = 0x1 ∧ respCodeBits .framingError = 0x2 ∧
    respCodeBits .integrityError = 0x3 ∧ respCodeBits .errIllegal = 0x8 ∧ respCodeBits .errArg = 0x9 ∧
    respCodeBits .errState = 0xA ∧ respCodeBits .errBusy = 0xB ∧ respCodeBits .errConfig = 0xC ∧
    respCodeBits .errOverflow = 0xD) ∧
  (respCodeClass .ok = .success ∧ respCodeClass .payloadTooLarge = .verdict ∧
    respCodeClass .framingError = .verdict ∧ respCodeClass .integrityError = .verdict ∧
    respCodeClass .errIllegal = .error ∧ respCodeClass .errArg = .error ∧ respCodeClass .errState = .error ∧
    respCodeClass .errBusy = .error ∧ respCodeClass .errConfig = .error ∧ respCodeClass .errOverflow = .error) ∧
  ∀ r : Response, (responseWord r).toNat = (respCodeBits r.code).toNat ∧
    ((responseWord r).toNat ≤ 3 ∨ 8 ≤ (responseWord r).toNat ∧ (responseWord r).toNat ≤ 13)

/-- R222: a command that answers an error changes nothing; a verdict writes only what its rule states. -/
def Obligations.ErrorsArePrecise : Prop :=
  ∀ (i : Instr) (s t : State) (r : Response), exec i s = .next t → t.responses = s.responses ++ [r] →
    (respCodeClass r.code = .error → t = respond r.code .none s ∧ r.data = .none) ∧
    (r.code = .payloadTooLarge ∨ r.code = .framingError → SameBlock s t) ∧
    (r.code = .integrityError →
      SameConfig s t ∧ SameCrc s t ∧ SameModulator s t ∧ SameDetector s t ∧ SamePbuf s t ∧
      ((∃ m, i = .pktCheck m) ∧ r.data = .u32 t.pktCalc ∨ (∃ e, i = .crcCheck e) ∧ SamePacket s t))

/-- 20_memory.md rule R69: the three reads change nothing, and a second read of the same answers the same (for BUF_RD
where the byte is written); BUF_WR and REG_WR are idempotent. -/
def Obligations.ReadsHaveNoSideEffects : Prop :=
  ∀ (i : Instr) (s t : State), exec i s = .next t →
    ((∃ r, i = .regRd r) ∨ (∃ r, i = .sregRd r) ∨ (∃ a, i = .bufRd a) → SameBlock s t) ∧
    ((∃ r, i = .regRd r) ∨ (∃ r, i = .sregRd r) ∨ (∃ a : Byte, i = .bufRd a ∧ (s.pbuf.find a.toNat).isSome = true) →
      ∃ u, exec i t = .next u ∧ lastResponse u = lastResponse t) ∧
    ((∃ a b, i = .bufWr a b) ∨ (∃ r v, i = .regWr r v) → ∃ u, exec i t = .next u ∧ SameBlock t u)

/-- R256: while a stream is open the configuration registers keep their values (RESET closes the streams), and REG_WR
of one answers ERR_BUSY. -/
def Obligations.ConfigurationIsFrozenWhileAStreamIsOpen : Prop :=
  ∀ (i : Instr) (s t : State), streamOpen s = true → exec i s = .next t →
    (i = .reset ∨ SameConfig s t) ∧
    (∀ r v, i = .regWr r v → 1 ≤ r.toNat → r.toNat ≤ 4 → lastResponse t = some ⟨.errBusy, .none⟩)

/-- 10_state.md rules R46, R47: the logs only grow, each by its own commands alone, and what they hold is never read. The
two runs compared in the last clause read the same draws where a byte of PBUF was never written: the model's choice,
log 4. -/
def Obligations.LogsAreAppendOnlyAndNeverRead : Prop :=
  ∀ (i : Instr) (s t : State), exec i s = .next t →
    ∃ (xs : List Sample) (bs : List Byte),
      t.txlog = s.txlog ++ xs ∧ t.rxlog = s.rxlog ++ bs ∧
      (xs ≠ [] → i = .modStart ∨ ∃ b, i = .modByte b) ∧ (bs ≠ [] → ∃ x, i = .demSample x) ∧
      ∀ (tx : List Sample) (rx : List Byte),
        exec i { s with txlog := tx, rxlog := rx } = .next { t with txlog := tx ++ xs, rxlog := rx ++ bs }

/-- The frames of the four families, from their rules (40_control.md to 44_detector.md): the commands of one unit leave
every other unit alone. -/
def Obligations.UnitsLeaveEachOtherAlone : Prop :=
  ∀ (i : Instr) (s t : State), exec i s = .next t →
    (i = .crcInit ∨ (∃ b, i = .crcByte b) ∨ (∃ e, i = .crcCheck e) →
      SameConfig s t ∧ SameModulator s t ∧ SameDetector s t ∧ SamePacket s t ∧ SamePbuf s t) ∧
    ((∃ a b, i = .bufWr a b) ∨ (∃ a, i = .bufRd a) ∨ i = .pktSeal ∨ (∃ m, i = .pktCheck m) →
      SameConfig s t ∧ SameCrc s t ∧ SameModulator s t ∧ SameDetector s t) ∧
    (i = .modStart ∨ (∃ b, i = .modByte b) ∨ i = .modEnd →
      SameConfig s t ∧ SameCrc s t ∧ SameDetector s t ∧ SamePacket s t ∧ SamePbuf s t) ∧
    (i = .demStart ∨ (∃ x, i = .demSample x) ∨ i = .demEnd →
      SameConfig s t ∧ SameCrc s t ∧ SameModulator s t ∧ SamePacket s t ∧ SamePbuf s t)

/-! ### Encoding, stepping and runs -/

/-- R81, R87: decoding what the encoder writes gives the command back, for every command and every operand. -/
def Obligations.DecodeOfEncodeIsTheCommand : Prop :=
  ∀ i : Instr, decode (encode i) = .ok i

/-- R82, R83, R84, R88: the opcodes that have a row, the RSV field; a transaction is either a well-formed command, which
is executed and whose encoding it is, or answers ERR_ILLEGAL with no effect. -/
def Obligations.IllFormedTransactionsAnswerIllegal : Prop :=
  (∀ x : Transaction,
    (x.opcodeDefined = false ↔
      let o := x.word.toNat / 2 ^ 24
      0x05 ≤ o ∧ o ≤ 0x0F ∨ 0x13 ≤ o ∧ o ≤ 0x1F ∨ 0x24 ≤ o ∧ o ≤ 0x2F ∨ 0x33 ≤ o ∧ o ≤ 0x3F ∨ 0x43 ≤ o) ∧
    (x.reservedClear = true ↔ x.word.extractLsb' 16 8 = 0)) ∧
  ∀ (x : Transaction) (s : State),
    (x.wellFormed = false → accept x s = .next (respond .errIllegal .none s)) ∧
    (x.wellFormed = true → ∃ i, decode x = .ok i ∧ encode i = x ∧ accept x s = exec i s)

/-- R90, its order: opcode, RSV, unused A, unused B, data lane; the first failing check names the error. -/
def Obligations.DecodeChecksInOrder : Prop :=
  ∀ x : Transaction,
    (x.opcodeDefined = false → decode x = .error .undefinedOpcode) ∧
    (x.opcodeDefined = true → x.reservedClear = false → decode x = .error .reservedNonzero) ∧
    (x.opcodeDefined = true → x.reservedClear = true → x.unusedAClear = false → decode x = .error .unusedANonzero) ∧
    (x.opcodeDefined = true → x.reservedClear = true → x.unusedAClear = true → x.unusedBClear = false →
      decode x = .error .unusedBNonzero) ∧
    (x.opcodeDefined = true → x.reservedClear = true → x.unusedAClear = true → x.unusedBClear = true →
      x.laneFits = false → decode x = .error .wrongLane)

/-- A few command words of R87, written out, and what they decode to. -/
def Obligations.WrittenWordsDecode : Prop :=
  decode ⟨0x02000005, .none⟩ = .ok (.regRd 0x05) ∧
  decode ⟨0x03000002, .u32 7⟩ = .ok (.regWr 0x02 7) ∧
  decode ⟨0x110000A5, .none⟩ = .ok (.crcByte 0xA5) ∧
  decode ⟨0x20000B48, .none⟩ = .ok (.bufWr 0x0B 0x48) ∧
  decode ⟨0x23000000, .u32 13⟩ = .ok (.pktCheck 13) ∧
  decode ⟨0x310000A5, .none⟩ = .ok (.modByte 0xA5) ∧
  decode ⟨0x41000000, .sample ⟨9⟩⟩ = .ok (.demSample ⟨9⟩)

/-- A step takes the next transaction and executes the command it decodes to, or answers ERR_ILLEGAL; with none waiting
nothing changes. The port's list and the idle step are the model's choice (log 1). -/
def Obligations.StepExecutesTheNextTransaction : Prop :=
  ∀ s : State,
    (s.port = [] → step s = .next s) ∧
    (∀ x rest i, s.port = x :: rest → decode x = .ok i → step s = exec i { s with port := rest }) ∧
    (∀ x rest e, s.port = x :: rest → decode x = .error e →
      step s = .next (respond .errIllegal .none { s with port := rest }))

/-- R91, R92: a number over its field's range is an assembly error, in every operand place of every command that takes
an integer, decimal or hexadecimal; and a pseudo-instruction expands exactly where its size condition holds. -/
def Obligations.OversizedOperandsAreAssemblyErrors : Prop :=
  (∀ (n : Nat) (p o : AsmOperand), 255 < n → (p = .num n ∨ p = .hex n) →
    assemble ⟨"BUF_WR", [p, o]⟩ = .error .outOfRange ∧ assemble ⟨"BUF_RD", [p]⟩ = .error .outOfRange ∧
    assemble ⟨"CRC_BYTE", [p]⟩ = .error .outOfRange ∧ assemble ⟨"MOD_BYTE", [p]⟩ = .error .outOfRange ∧
    assemble ⟨"REG_RD", [p]⟩ = .error .outOfRange ∧ assemble ⟨"SREG_RD", [p]⟩ = .error .outOfRange ∧
    assemble ⟨"REG_WR", [p, o]⟩ = .error .outOfRange ∧
    ∀ (a : Nat) (q : AsmOperand), a ≤ 255 → (q = .num a ∨ q = .hex a) →
      assemble ⟨"BUF_WR", [q, p]⟩ = .error .outOfRange) ∧
  (∀ (n : Nat) (p : AsmOperand), 2 ^ 32 ≤ n → (p = .num n ∨ p = .hex n) →
    assemble ⟨"CRC_CHECK", [p]⟩ = .error .outOfRange ∧ assemble ⟨"PKT_CHECK", [p]⟩ = .error .outOfRange ∧
    ∀ (a : Nat) (q : AsmOperand), a ≤ 255 → (q = .num a ∨ q = .hex a) →
      assemble ⟨"REG_WR", [q, p]⟩ = .error .outOfRange) ∧
  (∀ (a : Byte) (s : List Byte),
    (∃ is, expandPseudo (.bufFill a s) = .ok is) ↔ a.toNat + s.length ≤ 256) ∧
  (∀ (ty : Byte) (q : Word) (p : List Byte),
    (∃ is, expandPseudo (.pktBuild ty q p) = .ok is) ↔ p.length ≤ 245) ∧
  ∀ f : List Byte, (∃ is, expandPseudo (.pktVerify f) = .ok is) ↔ f.length ≤ 256

/-- The host's placed word is what the next step runs (the model's choice of lane, log 2). -/
def Obligations.PlacedWordIsRunNext : Prop :=
  ∀ (s : State) (nbits w : Nat) (i : Instr), decodeTableWord nbits w = some i →
    step (s.withFetchWord nbits w) = exec i s

/-- 10_state.md R49 and 20_memory.md R71: a run of presented transactions is its commands executed one after another (the
port is the model's choice, log 1). -/
def Obligations.RunIsTheCommandsInOrder : Prop :=
  ∀ (is : List Instr) (s : State), s.port = [] → runTransactions (is.map encode) s = execAll is s

/-- The power-on state meets the invariant (R34 to R39, R41, R44, R250). -/
def Obligations.PowerOnMeetsTheInvariant : Prop := State.reset.Inv

/-- Every step keeps the invariant: PBUF canonical, the two streams consistent with their configuration, the counters
in the ranges of R34 to R37, PKT_LEN a payload length. -/
def Obligations.StepKeepsTheInvariant : Prop :=
  ∀ s t : State, s.Inv → step s = .next t → t.Inv

/-- No step stops the machine, from any state: R220 and R224 ("A verdict never stops the block"). -/
def Obligations.EveryStepIsSafe : Prop := ∀ s : State, SafeStep s
end

