-- ==== Sys2Proof/Laws/Block.lean ====
section
/-! SUPPORT. The machine the host runs is the block over its own NUM (00_scope.md R7). -/

namespace Sys2Proof.Machine

/-- On the machine's own NUM, taking a transaction is decoding it and executing the command. -/
theorem acceptOver_num (t : Transaction) (s : State) : acceptOver Config.num t s = accept t s := by
  obtain ⟨w, d⟩ := t
  unfold acceptOver accept decode
  cases checkedRow (⟨w, d⟩ : Transaction) with
  | error e => rfl
  | ok m => cases m <;> cases d <;> rfl

theorem stepOver_num (s : State) : stepOver Config.num s = step s := by
  unfold stepOver step
  cases s.port with
  | nil => rfl
  | cons t rest => exact acceptOver_num t _

/-- The machine is an instance of the block over any NUM. -/
theorem blockOver_num : blockOver Config.num = Sys2Proof.core := by
  have h : (stepOver Config.num : State → _) = step := funext stepOver_num
  unfold blockOver Sys2Proof.core
  rw [h]
  rfl

end Sys2Proof.Machine
end

