-- ==== Sys2Proof/Laws/Encoding.lean ====
section
/-! SUPPORT. What the command word's fields are (30_encoding.md R81). -/

namespace Sys2Proof

/-- Every bit of a command word. -/
theorem commandWord_bit (m : Mnemonic) (a b : Byte) (i : Nat) :
    (commandWord m a b).getLsbD i =
      if i < 8 then b.getLsbD i else if i < 16 then a.getLsbD (i - 8) else if i < 24 then false
      else m.opcode.getLsbD (i - 24) := by
  show BitVec.getLsbD (w := 8 + 8 + 8 + 8) (m.opcode ++ (0 : Byte) ++ a ++ b) i = _
  simp only [BitVec.getLsbD_append]
  split_ifs <;> first | omega | simp | rfl

@[simp] theorem opcField_commandWord (m : Mnemonic) (a b : Byte) : opcField (commandWord m a b) = m.opcode := by
  apply BitVec.eq_of_getLsbD_eq
  intro i hi
  have h1 : ¬ 24 + i < 8 := by omega
  have h2 : ¬ 24 + i < 16 := by omega
  have h3 : ¬ 24 + i < 24 := by omega
  simp [opcField, commandWord_bit, hi, h1, h2, h3]

@[simp] theorem rsvField_commandWord (m : Mnemonic) (a b : Byte) : rsvField (commandWord m a b) = 0 := by
  apply BitVec.eq_of_getLsbD_eq
  intro i hi
  have h1 : ¬ 16 + i < 8 := by omega
  have h2 : ¬ 16 + i < 16 := by omega
  have h3 : 16 + i < 24 := by omega
  simp [rsvField, commandWord_bit, h1, h2, h3]

@[simp] theorem aField_commandWord (m : Mnemonic) (a b : Byte) : aField (commandWord m a b) = a := by
  apply BitVec.eq_of_getLsbD_eq
  intro i hi
  have h1 : ¬ 8 + i < 8 := by omega
  have h2 : 8 + i < 16 := by omega
  simp [aField, commandWord_bit, hi, h1, h2]

@[simp] theorem bField_commandWord (m : Mnemonic) (a b : Byte) : bField (commandWord m a b) = b := by
  apply BitVec.eq_of_getLsbD_eq
  intro i hi
  simp [bField, commandWord_bit, hi]

@[simp] theorem ofOpcode_opcode (m : Mnemonic) : Mnemonic.ofOpcode m.opcode = some m := by
  cases m <;> rfl

end Sys2Proof
end

