-- ==== Sys2Proof/Laws/Memory.lean ====
section
/-! SUPPORT. The laws of PBUF: reading after writing, and the canonical form (20_memory.md R60, R71, R72). -/

namespace Sys2Proof.Machine

@[simp] theorem Memory.find_nil (a : Nat) : Memory.find [] a = none := rfl

/-- A byte just written is read back. -/
@[simp] theorem Memory.find_store_same (m : Memory) (a : Nat) (v : Byte) : (m.store a v).find a = some v := by
  induction m with
  | nil => simp [Memory.store, Memory.find]
  | cons c m ih =>
    obtain ⟨b, w⟩ := c
    simp only [Memory.store]
    split
    · simp [Memory.find]
    · split
      · simp [Memory.find]
      · rename_i _ h
        simp [Memory.find, h, ih]

/-- A write leaves every other byte alone. -/
theorem Memory.find_store_other (m : Memory) {a b : Nat} (v : Byte) (h : b ≠ a) :
    (m.store a v).find b = m.find b := by
  induction m with
  | nil => simp [Memory.store, Memory.find, h]
  | cons c m ih =>
    obtain ⟨d, w⟩ := c
    simp only [Memory.store]
    split
    · simp [Memory.find, h]
    · split
      · rename_i _ e
        subst e
        simp [Memory.find, h]
      · simp only [Memory.find, ih]

/-- Both laws in one. -/
theorem Memory.find_store (m : Memory) (a b : Nat) (v : Byte) :
    (m.store a v).find b = if b = a then some v else m.find b := by
  split
  · rename_i h
    subst h
    exact Memory.find_store_same m b v
  · rename_i h
    exact Memory.find_store_other m v h

theorem Memory.mem_store {m : Memory} {a : Nat} {v : Byte} {c : Host.Cell} (h : c ∈ m.store a v) :
    c = (a, v) ∨ c ∈ m := by
  induction m with
  | nil => simpa [Memory.store] using h
  | cons d m ih =>
    obtain ⟨b, w⟩ := d
    simp only [Memory.store] at h
    split at h
    · simpa using h
    · split at h
      · rcases List.mem_cons.1 h with h | h
        · exact .inl h
        · exact .inr (List.mem_cons_of_mem _ h)
      · rcases List.mem_cons.1 h with h | h
        · exact .inr (h ▸ List.mem_cons_self)
        · exact (ih h).imp_right (List.mem_cons_of_mem _)

theorem Memory.pairwise_store {m : Memory} (a : Nat) (v : Byte)
    (h : m.Pairwise fun x y => x.1 < y.1) : (m.store a v).Pairwise fun x y => x.1 < y.1 := by
  induction m with
  | nil => simp [Memory.store]
  | cons d m ih =>
    obtain ⟨b, w⟩ := d
    rw [List.pairwise_cons] at h
    simp only [Memory.store]
    split
    · rename_i hab
      refine List.pairwise_cons.2 ⟨fun c hc => ?_, List.pairwise_cons.2 h⟩
      rcases List.mem_cons.1 hc with rfl | hc
      · exact hab
      · exact hab.trans (h.1 c hc)
    · split
      · rename_i e
        subst e
        exact List.pairwise_cons.2 ⟨h.1, h.2⟩
      · refine List.pairwise_cons.2 ⟨fun c hc => ?_, ih h.2⟩
        rcases Memory.mem_store hc with rfl | hc
        · show b < a
          omega
        · exact h.1 c hc

theorem Memory.wf_nil : Memory.wf [] := ⟨List.Pairwise.nil, by simp⟩

/-- A write inside PBUF keeps the canonical form. -/
theorem Memory.wf_store {m : Memory} (h : m.wf) {a : Nat} (ha : a < Config.pbufSize) (v : Byte) :
    (m.store a v).wf := by
  refine ⟨Memory.pairwise_store a v h.1, fun c hc => ?_⟩
  rcases Memory.mem_store hc with rfl | hc
  · exact ha
  · exact h.2 c hc

theorem Memory.find_eq_none_of_lt {m : Memory} {a : Nat} (h : ∀ c ∈ m, a < c.1) : m.find a = none := by
  induction m with
  | nil => rfl
  | cons d m ih =>
    have h1 := h d List.mem_cons_self
    have h2 := ih fun c hc => h c (List.mem_cons_of_mem _ hc)
    simp [Memory.find, h2, Nat.ne_of_lt h1]

/-- The form is canonical: memories that read the same are the same data. -/
theorem Memory.ext {m n : Memory} (hm : m.wf) (hn : n.wf) (h : ∀ a, m.find a = n.find a) : m = n := by
  obtain ⟨hm, -⟩ := hm
  obtain ⟨hn, -⟩ := hn
  induction m generalizing n with
  | nil =>
    cases n with
    | nil => rfl
    | cons d n =>
      have := h d.1
      simp [Memory.find] at this
  | cons c m ih =>
    cases n with
    | nil =>
      have := h c.1
      simp [Memory.find] at this
    | cons d n =>
      obtain ⟨a, v⟩ := c
      obtain ⟨b, w⟩ := d
      rw [List.pairwise_cons] at hm hn
      have key : a = b := by
        rcases Nat.lt_trichotomy a b with hab | hab | hab
        · have := h a
          rw [Memory.find_eq_none_of_lt (m := (b, w) :: n)] at this
          · simp [Memory.find] at this
          · intro c hc
            rcases List.mem_cons.1 hc with rfl | hc
            · exact hab
            · exact hab.trans (hn.1 c hc)
        · exact hab
        · have := h b
          rw [Memory.find_eq_none_of_lt (m := (a, v) :: m)] at this
          · simp [Memory.find] at this
          · intro c hc
            rcases List.mem_cons.1 hc with rfl | hc
            · exact hab
            · exact hab.trans (hm.1 c hc)
      subst key
      have hv := h a
      simp only [Memory.find, if_true, Option.some.injEq] at hv
      subst hv
      refine congrArg _ (ih ?_ hm.2 hn.2)
      intro x
      by_cases hx : x = a
      · subst hx
        rw [Memory.find_eq_none_of_lt hm.1, Memory.find_eq_none_of_lt hn.1]
      · have := h x
        simpa [Memory.find, hx] using this

/-- A way to check that PBUF holds bytes. -/
theorem holdsBytes_of_check {s : State} {a : Nat} {bs : List Byte}
    (h : ((List.range bs.length).all fun j => s.pbuf.find (a + j) == bs[j]?) = true) : HoldsBytes s a bs := by
  intro j v hj
  have hlt : j < bs.length := (List.getElem?_eq_some_iff.1 hj).1
  have := List.all_eq_true.1 h j (List.mem_range.2 hlt)
  rw [← hj]
  exact eq_of_beq this

end Sys2Proof.Machine
end

