-- ==== Sys2Proof/Laws/State.lean ====
section
/-! SUPPORT. What each named update leaves in each field of the state, so that no proof unfolds a record update. -/

namespace Sys2Proof.Machine

variable {α : Type} (N : Numerics α) (s : State α)

/-! ### respond -/

@[simp] theorem respond_sampleRate (c : RespCode) (d : DataLane α) : (respond c d s).sampleRate = s.sampleRate := rfl
@[simp] theorem respond_bitRate (c : RespCode) (d : DataLane α) : (respond c d s).bitRate = s.bitRate := rfl
@[simp] theorem respond_freq0 (c : RespCode) (d : DataLane α) : (respond c d s).freq0 = s.freq0 := rfl
@[simp] theorem respond_freq1 (c : RespCode) (d : DataLane α) : (respond c d s).freq1 = s.freq1 := rfl
@[simp] theorem respond_crcState (c : RespCode) (d : DataLane α) : (respond c d s).crcState = s.crcState := rfl
@[simp] theorem respond_modActive (c : RespCode) (d : DataLane α) : (respond c d s).modActive = s.modActive := rfl
@[simp] theorem respond_modN (c : RespCode) (d : DataLane α) : (respond c d s).modN = s.modN := rfl
@[simp] theorem respond_demActive (c : RespCode) (d : DataLane α) : (respond c d s).demActive = s.demActive := rfl
@[simp] theorem respond_demSkip (c : RespCode) (d : DataLane α) : (respond c d s).demSkip = s.demSkip := rfl
@[simp] theorem respond_demWcnt (c : RespCode) (d : DataLane α) : (respond c d s).demWcnt = s.demWcnt := rfl
@[simp] theorem respond_demBsr (c : RespCode) (d : DataLane α) : (respond c d s).demBsr = s.demBsr := rfl
@[simp] theorem respond_demBcnt (c : RespCode) (d : DataLane α) : (respond c d s).demBcnt = s.demBcnt := rfl
@[simp] theorem respond_demLastbit (c : RespCode) (d : DataLane α) : (respond c d s).demLastbit = s.demLastbit := rfl
@[simp] theorem respond_pktLen (c : RespCode) (d : DataLane α) : (respond c d s).pktLen = s.pktLen := rfl
@[simp] theorem respond_pktCalc (c : RespCode) (d : DataLane α) : (respond c d s).pktCalc = s.pktCalc := rfl
@[simp] theorem respond_s1_0 (c : RespCode) (d : DataLane α) : (respond c d s).s1_0 = s.s1_0 := rfl
@[simp] theorem respond_s2_0 (c : RespCode) (d : DataLane α) : (respond c d s).s2_0 = s.s2_0 := rfl
@[simp] theorem respond_s1_1 (c : RespCode) (d : DataLane α) : (respond c d s).s1_1 = s.s1_1 := rfl
@[simp] theorem respond_s2_1 (c : RespCode) (d : DataLane α) : (respond c d s).s2_1 = s.s2_1 := rfl
@[simp] theorem respond_power0 (c : RespCode) (d : DataLane α) : (respond c d s).power0 = s.power0 := rfl
@[simp] theorem respond_power1 (c : RespCode) (d : DataLane α) : (respond c d s).power1 = s.power1 := rfl
@[simp] theorem respond_pbuf (c : RespCode) (d : DataLane α) : (respond c d s).pbuf = s.pbuf := rfl
@[simp] theorem respond_txlog (c : RespCode) (d : DataLane α) : (respond c d s).txlog = s.txlog := rfl
@[simp] theorem respond_rxlog (c : RespCode) (d : DataLane α) : (respond c d s).rxlog = s.rxlog := rfl
@[simp] theorem respond_port (c : RespCode) (d : DataLane α) : (respond c d s).port = s.port := rfl
@[simp] theorem respond_responses (c : RespCode) (d : DataLane α) : (respond c d s).responses = s.responses ++ [⟨c, d⟩] := rfl
@[simp] theorem respond_draws (c : RespCode) (d : DataLane α) : (respond c d s).draws = s.draws := rfl
@[simp] theorem respond_cfg (c : RespCode) (d : DataLane α) : (respond c d s).cfg = s.cfg := rfl

/-! ### memWrite -/

@[simp] theorem memWrite_sampleRate (a v : Byte) : (memWrite a v s).sampleRate = s.sampleRate := rfl
@[simp] theorem memWrite_bitRate (a v : Byte) : (memWrite a v s).bitRate = s.bitRate := rfl
@[simp] theorem memWrite_freq0 (a v : Byte) : (memWrite a v s).freq0 = s.freq0 := rfl
@[simp] theorem memWrite_freq1 (a v : Byte) : (memWrite a v s).freq1 = s.freq1 := rfl
@[simp] theorem memWrite_crcState (a v : Byte) : (memWrite a v s).crcState = s.crcState := rfl
@[simp] theorem memWrite_modActive (a v : Byte) : (memWrite a v s).modActive = s.modActive := rfl
@[simp] theorem memWrite_modN (a v : Byte) : (memWrite a v s).modN = s.modN := rfl
@[simp] theorem memWrite_demActive (a v : Byte) : (memWrite a v s).demActive = s.demActive := rfl
@[simp] theorem memWrite_demSkip (a v : Byte) : (memWrite a v s).demSkip = s.demSkip := rfl
@[simp] theorem memWrite_demWcnt (a v : Byte) : (memWrite a v s).demWcnt = s.demWcnt := rfl
@[simp] theorem memWrite_demBsr (a v : Byte) : (memWrite a v s).demBsr = s.demBsr := rfl
@[simp] theorem memWrite_demBcnt (a v : Byte) : (memWrite a v s).demBcnt = s.demBcnt := rfl
@[simp] theorem memWrite_demLastbit (a v : Byte) : (memWrite a v s).demLastbit = s.demLastbit := rfl
@[simp] theorem memWrite_pktLen (a v : Byte) : (memWrite a v s).pktLen = s.pktLen := rfl
@[simp] theorem memWrite_pktCalc (a v : Byte) : (memWrite a v s).pktCalc = s.pktCalc := rfl
@[simp] theorem memWrite_s1_0 (a v : Byte) : (memWrite a v s).s1_0 = s.s1_0 := rfl
@[simp] theorem memWrite_s2_0 (a v : Byte) : (memWrite a v s).s2_0 = s.s2_0 := rfl
@[simp] theorem memWrite_s1_1 (a v : Byte) : (memWrite a v s).s1_1 = s.s1_1 := rfl
@[simp] theorem memWrite_s2_1 (a v : Byte) : (memWrite a v s).s2_1 = s.s2_1 := rfl
@[simp] theorem memWrite_power0 (a v : Byte) : (memWrite a v s).power0 = s.power0 := rfl
@[simp] theorem memWrite_power1 (a v : Byte) : (memWrite a v s).power1 = s.power1 := rfl
@[simp] theorem memWrite_pbuf (a v : Byte) : (memWrite a v s).pbuf = s.pbuf.store a.toNat v := rfl
@[simp] theorem memWrite_txlog (a v : Byte) : (memWrite a v s).txlog = s.txlog := rfl
@[simp] theorem memWrite_rxlog (a v : Byte) : (memWrite a v s).rxlog = s.rxlog := rfl
@[simp] theorem memWrite_port (a v : Byte) : (memWrite a v s).port = s.port := rfl
@[simp] theorem memWrite_responses (a v : Byte) : (memWrite a v s).responses = s.responses := rfl
@[simp] theorem memWrite_draws (a v : Byte) : (memWrite a v s).draws = s.draws := rfl
@[simp] theorem memWrite_cfg (a v : Byte) : (memWrite a v s).cfg = s.cfg := rfl

/-! ### emitTX -/

@[simp] theorem emitTX_sampleRate (xs : List α) : (emitTX xs s).sampleRate = s.sampleRate := rfl
@[simp] theorem emitTX_bitRate (xs : List α) : (emitTX xs s).bitRate = s.bitRate := rfl
@[simp] theorem emitTX_freq0 (xs : List α) : (emitTX xs s).freq0 = s.freq0 := rfl
@[simp] theorem emitTX_freq1 (xs : List α) : (emitTX xs s).freq1 = s.freq1 := rfl
@[simp] theorem emitTX_crcState (xs : List α) : (emitTX xs s).crcState = s.crcState := rfl
@[simp] theorem emitTX_modActive (xs : List α) : (emitTX xs s).modActive = s.modActive := rfl
@[simp] theorem emitTX_modN (xs : List α) : (emitTX xs s).modN = s.modN := rfl
@[simp] theorem emitTX_demActive (xs : List α) : (emitTX xs s).demActive = s.demActive := rfl
@[simp] theorem emitTX_demSkip (xs : List α) : (emitTX xs s).demSkip = s.demSkip := rfl
@[simp] theorem emitTX_demWcnt (xs : List α) : (emitTX xs s).demWcnt = s.demWcnt := rfl
@[simp] theorem emitTX_demBsr (xs : List α) : (emitTX xs s).demBsr = s.demBsr := rfl
@[simp] theorem emitTX_demBcnt (xs : List α) : (emitTX xs s).demBcnt = s.demBcnt := rfl
@[simp] theorem emitTX_demLastbit (xs : List α) : (emitTX xs s).demLastbit = s.demLastbit := rfl
@[simp] theorem emitTX_pktLen (xs : List α) : (emitTX xs s).pktLen = s.pktLen := rfl
@[simp] theorem emitTX_pktCalc (xs : List α) : (emitTX xs s).pktCalc = s.pktCalc := rfl
@[simp] theorem emitTX_s1_0 (xs : List α) : (emitTX xs s).s1_0 = s.s1_0 := rfl
@[simp] theorem emitTX_s2_0 (xs : List α) : (emitTX xs s).s2_0 = s.s2_0 := rfl
@[simp] theorem emitTX_s1_1 (xs : List α) : (emitTX xs s).s1_1 = s.s1_1 := rfl
@[simp] theorem emitTX_s2_1 (xs : List α) : (emitTX xs s).s2_1 = s.s2_1 := rfl
@[simp] theorem emitTX_power0 (xs : List α) : (emitTX xs s).power0 = s.power0 := rfl
@[simp] theorem emitTX_power1 (xs : List α) : (emitTX xs s).power1 = s.power1 := rfl
@[simp] theorem emitTX_pbuf (xs : List α) : (emitTX xs s).pbuf = s.pbuf := rfl
@[simp] theorem emitTX_txlog (xs : List α) : (emitTX xs s).txlog = s.txlog ++ xs := rfl
@[simp] theorem emitTX_rxlog (xs : List α) : (emitTX xs s).rxlog = s.rxlog := rfl
@[simp] theorem emitTX_port (xs : List α) : (emitTX xs s).port = s.port := rfl
@[simp] theorem emitTX_responses (xs : List α) : (emitTX xs s).responses = s.responses := rfl
@[simp] theorem emitTX_draws (xs : List α) : (emitTX xs s).draws = s.draws := rfl
@[simp] theorem emitTX_cfg (xs : List α) : (emitTX xs s).cfg = s.cfg := rfl

/-! ### emitRX -/

@[simp] theorem emitRX_sampleRate (b : Byte) : (emitRX b s).sampleRate = s.sampleRate := rfl
@[simp] theorem emitRX_bitRate (b : Byte) : (emitRX b s).bitRate = s.bitRate := rfl
@[simp] theorem emitRX_freq0 (b : Byte) : (emitRX b s).freq0 = s.freq0 := rfl
@[simp] theorem emitRX_freq1 (b : Byte) : (emitRX b s).freq1 = s.freq1 := rfl
@[simp] theorem emitRX_crcState (b : Byte) : (emitRX b s).crcState = s.crcState := rfl
@[simp] theorem emitRX_modActive (b : Byte) : (emitRX b s).modActive = s.modActive := rfl
@[simp] theorem emitRX_modN (b : Byte) : (emitRX b s).modN = s.modN := rfl
@[simp] theorem emitRX_demActive (b : Byte) : (emitRX b s).demActive = s.demActive := rfl
@[simp] theorem emitRX_demSkip (b : Byte) : (emitRX b s).demSkip = s.demSkip := rfl
@[simp] theorem emitRX_demWcnt (b : Byte) : (emitRX b s).demWcnt = s.demWcnt := rfl
@[simp] theorem emitRX_demBsr (b : Byte) : (emitRX b s).demBsr = s.demBsr := rfl
@[simp] theorem emitRX_demBcnt (b : Byte) : (emitRX b s).demBcnt = s.demBcnt := rfl
@[simp] theorem emitRX_demLastbit (b : Byte) : (emitRX b s).demLastbit = s.demLastbit := rfl
@[simp] theorem emitRX_pktLen (b : Byte) : (emitRX b s).pktLen = s.pktLen := rfl
@[simp] theorem emitRX_pktCalc (b : Byte) : (emitRX b s).pktCalc = s.pktCalc := rfl
@[simp] theorem emitRX_s1_0 (b : Byte) : (emitRX b s).s1_0 = s.s1_0 := rfl
@[simp] theorem emitRX_s2_0 (b : Byte) : (emitRX b s).s2_0 = s.s2_0 := rfl
@[simp] theorem emitRX_s1_1 (b : Byte) : (emitRX b s).s1_1 = s.s1_1 := rfl
@[simp] theorem emitRX_s2_1 (b : Byte) : (emitRX b s).s2_1 = s.s2_1 := rfl
@[simp] theorem emitRX_power0 (b : Byte) : (emitRX b s).power0 = s.power0 := rfl
@[simp] theorem emitRX_power1 (b : Byte) : (emitRX b s).power1 = s.power1 := rfl
@[simp] theorem emitRX_pbuf (b : Byte) : (emitRX b s).pbuf = s.pbuf := rfl
@[simp] theorem emitRX_txlog (b : Byte) : (emitRX b s).txlog = s.txlog := rfl
@[simp] theorem emitRX_rxlog (b : Byte) : (emitRX b s).rxlog = s.rxlog ++ [b] := rfl
@[simp] theorem emitRX_port (b : Byte) : (emitRX b s).port = s.port := rfl
@[simp] theorem emitRX_responses (b : Byte) : (emitRX b s).responses = s.responses := rfl
@[simp] theorem emitRX_draws (b : Byte) : (emitRX b s).draws = s.draws := rfl
@[simp] theorem emitRX_cfg (b : Byte) : (emitRX b s).cfg = s.cfg := rfl

/-! ### present -/

@[simp] theorem present_sampleRate (ts : List (Transaction α)) : (present ts s).sampleRate = s.sampleRate := rfl
@[simp] theorem present_bitRate (ts : List (Transaction α)) : (present ts s).bitRate = s.bitRate := rfl
@[simp] theorem present_freq0 (ts : List (Transaction α)) : (present ts s).freq0 = s.freq0 := rfl
@[simp] theorem present_freq1 (ts : List (Transaction α)) : (present ts s).freq1 = s.freq1 := rfl
@[simp] theorem present_crcState (ts : List (Transaction α)) : (present ts s).crcState = s.crcState := rfl
@[simp] theorem present_modActive (ts : List (Transaction α)) : (present ts s).modActive = s.modActive := rfl
@[simp] theorem present_modN (ts : List (Transaction α)) : (present ts s).modN = s.modN := rfl
@[simp] theorem present_demActive (ts : List (Transaction α)) : (present ts s).demActive = s.demActive := rfl
@[simp] theorem present_demSkip (ts : List (Transaction α)) : (present ts s).demSkip = s.demSkip := rfl
@[simp] theorem present_demWcnt (ts : List (Transaction α)) : (present ts s).demWcnt = s.demWcnt := rfl
@[simp] theorem present_demBsr (ts : List (Transaction α)) : (present ts s).demBsr = s.demBsr := rfl
@[simp] theorem present_demBcnt (ts : List (Transaction α)) : (present ts s).demBcnt = s.demBcnt := rfl
@[simp] theorem present_demLastbit (ts : List (Transaction α)) : (present ts s).demLastbit = s.demLastbit := rfl
@[simp] theorem present_pktLen (ts : List (Transaction α)) : (present ts s).pktLen = s.pktLen := rfl
@[simp] theorem present_pktCalc (ts : List (Transaction α)) : (present ts s).pktCalc = s.pktCalc := rfl
@[simp] theorem present_s1_0 (ts : List (Transaction α)) : (present ts s).s1_0 = s.s1_0 := rfl
@[simp] theorem present_s2_0 (ts : List (Transaction α)) : (present ts s).s2_0 = s.s2_0 := rfl
@[simp] theorem present_s1_1 (ts : List (Transaction α)) : (present ts s).s1_1 = s.s1_1 := rfl
@[simp] theorem present_s2_1 (ts : List (Transaction α)) : (present ts s).s2_1 = s.s2_1 := rfl
@[simp] theorem present_power0 (ts : List (Transaction α)) : (present ts s).power0 = s.power0 := rfl
@[simp] theorem present_power1 (ts : List (Transaction α)) : (present ts s).power1 = s.power1 := rfl
@[simp] theorem present_pbuf (ts : List (Transaction α)) : (present ts s).pbuf = s.pbuf := rfl
@[simp] theorem present_txlog (ts : List (Transaction α)) : (present ts s).txlog = s.txlog := rfl
@[simp] theorem present_rxlog (ts : List (Transaction α)) : (present ts s).rxlog = s.rxlog := rfl
@[simp] theorem present_port (ts : List (Transaction α)) : (present ts s).port = s.port ++ ts := rfl
@[simp] theorem present_responses (ts : List (Transaction α)) : (present ts s).responses = s.responses := rfl
@[simp] theorem present_draws (ts : List (Transaction α)) : (present ts s).draws = s.draws := rfl
@[simp] theorem present_cfg (ts : List (Transaction α)) : (present ts s).cfg = s.cfg := rfl

/-! ### recordPacket -/

@[simp] theorem recordPacket_sampleRate (len : Nat) (c : Word) : (recordPacket len c s).sampleRate = s.sampleRate := rfl
@[simp] theorem recordPacket_bitRate (len : Nat) (c : Word) : (recordPacket len c s).bitRate = s.bitRate := rfl
@[simp] theorem recordPacket_freq0 (len : Nat) (c : Word) : (recordPacket len c s).freq0 = s.freq0 := rfl
@[simp] theorem recordPacket_freq1 (len : Nat) (c : Word) : (recordPacket len c s).freq1 = s.freq1 := rfl
@[simp] theorem recordPacket_crcState (len : Nat) (c : Word) : (recordPacket len c s).crcState = s.crcState := rfl
@[simp] theorem recordPacket_modActive (len : Nat) (c : Word) : (recordPacket len c s).modActive = s.modActive := rfl
@[simp] theorem recordPacket_modN (len : Nat) (c : Word) : (recordPacket len c s).modN = s.modN := rfl
@[simp] theorem recordPacket_demActive (len : Nat) (c : Word) : (recordPacket len c s).demActive = s.demActive := rfl
@[simp] theorem recordPacket_demSkip (len : Nat) (c : Word) : (recordPacket len c s).demSkip = s.demSkip := rfl
@[simp] theorem recordPacket_demWcnt (len : Nat) (c : Word) : (recordPacket len c s).demWcnt = s.demWcnt := rfl
@[simp] theorem recordPacket_demBsr (len : Nat) (c : Word) : (recordPacket len c s).demBsr = s.demBsr := rfl
@[simp] theorem recordPacket_demBcnt (len : Nat) (c : Word) : (recordPacket len c s).demBcnt = s.demBcnt := rfl
@[simp] theorem recordPacket_demLastbit (len : Nat) (c : Word) : (recordPacket len c s).demLastbit = s.demLastbit := rfl
@[simp] theorem recordPacket_pktLen (len : Nat) (c : Word) : (recordPacket len c s).pktLen = BitVec.ofNat 16 len := rfl
@[simp] theorem recordPacket_pktCalc (len : Nat) (c : Word) : (recordPacket len c s).pktCalc = c := rfl
@[simp] theorem recordPacket_s1_0 (len : Nat) (c : Word) : (recordPacket len c s).s1_0 = s.s1_0 := rfl
@[simp] theorem recordPacket_s2_0 (len : Nat) (c : Word) : (recordPacket len c s).s2_0 = s.s2_0 := rfl
@[simp] theorem recordPacket_s1_1 (len : Nat) (c : Word) : (recordPacket len c s).s1_1 = s.s1_1 := rfl
@[simp] theorem recordPacket_s2_1 (len : Nat) (c : Word) : (recordPacket len c s).s2_1 = s.s2_1 := rfl
@[simp] theorem recordPacket_power0 (len : Nat) (c : Word) : (recordPacket len c s).power0 = s.power0 := rfl
@[simp] theorem recordPacket_power1 (len : Nat) (c : Word) : (recordPacket len c s).power1 = s.power1 := rfl
@[simp] theorem recordPacket_pbuf (len : Nat) (c : Word) : (recordPacket len c s).pbuf = s.pbuf := rfl
@[simp] theorem recordPacket_txlog (len : Nat) (c : Word) : (recordPacket len c s).txlog = s.txlog := rfl
@[simp] theorem recordPacket_rxlog (len : Nat) (c : Word) : (recordPacket len c s).rxlog = s.rxlog := rfl
@[simp] theorem recordPacket_port (len : Nat) (c : Word) : (recordPacket len c s).port = s.port := rfl
@[simp] theorem recordPacket_responses (len : Nat) (c : Word) : (recordPacket len c s).responses = s.responses := rfl
@[simp] theorem recordPacket_draws (len : Nat) (c : Word) : (recordPacket len c s).draws = s.draws := rfl
@[simp] theorem recordPacket_cfg (len : Nat) (c : Word) : (recordPacket len c s).cfg = s.cfg := rfl

/-! ### sendBit -/

@[simp] theorem sendBit_sampleRate (v : Bool) : (sendBit N v s).sampleRate = s.sampleRate := rfl
@[simp] theorem sendBit_bitRate (v : Bool) : (sendBit N v s).bitRate = s.bitRate := rfl
@[simp] theorem sendBit_freq0 (v : Bool) : (sendBit N v s).freq0 = s.freq0 := rfl
@[simp] theorem sendBit_freq1 (v : Bool) : (sendBit N v s).freq1 = s.freq1 := rfl
@[simp] theorem sendBit_crcState (v : Bool) : (sendBit N v s).crcState = s.crcState := rfl
@[simp] theorem sendBit_modActive (v : Bool) : (sendBit N v s).modActive = s.modActive := rfl
@[simp] theorem sendBit_modN (v : Bool) : (sendBit N v s).modN = s.modN + BitVec.ofNat 32 (spb s.cfg) := rfl
@[simp] theorem sendBit_demActive (v : Bool) : (sendBit N v s).demActive = s.demActive := rfl
@[simp] theorem sendBit_demSkip (v : Bool) : (sendBit N v s).demSkip = s.demSkip := rfl
@[simp] theorem sendBit_demWcnt (v : Bool) : (sendBit N v s).demWcnt = s.demWcnt := rfl
@[simp] theorem sendBit_demBsr (v : Bool) : (sendBit N v s).demBsr = s.demBsr := rfl
@[simp] theorem sendBit_demBcnt (v : Bool) : (sendBit N v s).demBcnt = s.demBcnt := rfl
@[simp] theorem sendBit_demLastbit (v : Bool) : (sendBit N v s).demLastbit = s.demLastbit := rfl
@[simp] theorem sendBit_pktLen (v : Bool) : (sendBit N v s).pktLen = s.pktLen := rfl
@[simp] theorem sendBit_pktCalc (v : Bool) : (sendBit N v s).pktCalc = s.pktCalc := rfl
@[simp] theorem sendBit_s1_0 (v : Bool) : (sendBit N v s).s1_0 = s.s1_0 := rfl
@[simp] theorem sendBit_s2_0 (v : Bool) : (sendBit N v s).s2_0 = s.s2_0 := rfl
@[simp] theorem sendBit_s1_1 (v : Bool) : (sendBit N v s).s1_1 = s.s1_1 := rfl
@[simp] theorem sendBit_s2_1 (v : Bool) : (sendBit N v s).s2_1 = s.s2_1 := rfl
@[simp] theorem sendBit_power0 (v : Bool) : (sendBit N v s).power0 = s.power0 := rfl
@[simp] theorem sendBit_power1 (v : Bool) : (sendBit N v s).power1 = s.power1 := rfl
@[simp] theorem sendBit_pbuf (v : Bool) : (sendBit N v s).pbuf = s.pbuf := rfl
@[simp] theorem sendBit_txlog (v : Bool) : (sendBit N v s).txlog = s.txlog ++ bitSamples N s.cfg v s.modN.toNat := rfl
@[simp] theorem sendBit_rxlog (v : Bool) : (sendBit N v s).rxlog = s.rxlog := rfl
@[simp] theorem sendBit_port (v : Bool) : (sendBit N v s).port = s.port := rfl
@[simp] theorem sendBit_responses (v : Bool) : (sendBit N v s).responses = s.responses := rfl
@[simp] theorem sendBit_draws (v : Bool) : (sendBit N v s).draws = s.draws := rfl
@[simp] theorem sendBit_cfg (v : Bool) : (sendBit N v s).cfg = s.cfg := rfl

/-! ### clearFilters -/

@[simp] theorem clearFilters_sampleRate : (clearFilters N s).sampleRate = s.sampleRate := rfl
@[simp] theorem clearFilters_bitRate : (clearFilters N s).bitRate = s.bitRate := rfl
@[simp] theorem clearFilters_freq0 : (clearFilters N s).freq0 = s.freq0 := rfl
@[simp] theorem clearFilters_freq1 : (clearFilters N s).freq1 = s.freq1 := rfl
@[simp] theorem clearFilters_crcState : (clearFilters N s).crcState = s.crcState := rfl
@[simp] theorem clearFilters_modActive : (clearFilters N s).modActive = s.modActive := rfl
@[simp] theorem clearFilters_modN : (clearFilters N s).modN = s.modN := rfl
@[simp] theorem clearFilters_demActive : (clearFilters N s).demActive = s.demActive := rfl
@[simp] theorem clearFilters_demSkip : (clearFilters N s).demSkip = s.demSkip := rfl
@[simp] theorem clearFilters_demWcnt : (clearFilters N s).demWcnt = s.demWcnt := rfl
@[simp] theorem clearFilters_demBsr : (clearFilters N s).demBsr = s.demBsr := rfl
@[simp] theorem clearFilters_demBcnt : (clearFilters N s).demBcnt = s.demBcnt := rfl
@[simp] theorem clearFilters_demLastbit : (clearFilters N s).demLastbit = s.demLastbit := rfl
@[simp] theorem clearFilters_pktLen : (clearFilters N s).pktLen = s.pktLen := rfl
@[simp] theorem clearFilters_pktCalc : (clearFilters N s).pktCalc = s.pktCalc := rfl
@[simp] theorem clearFilters_s1_0 : (clearFilters N s).s1_0 = N.zero := rfl
@[simp] theorem clearFilters_s2_0 : (clearFilters N s).s2_0 = N.zero := rfl
@[simp] theorem clearFilters_s1_1 : (clearFilters N s).s1_1 = N.zero := rfl
@[simp] theorem clearFilters_s2_1 : (clearFilters N s).s2_1 = N.zero := rfl
@[simp] theorem clearFilters_power0 : (clearFilters N s).power0 = s.power0 := rfl
@[simp] theorem clearFilters_power1 : (clearFilters N s).power1 = s.power1 := rfl
@[simp] theorem clearFilters_pbuf : (clearFilters N s).pbuf = s.pbuf := rfl
@[simp] theorem clearFilters_txlog : (clearFilters N s).txlog = s.txlog := rfl
@[simp] theorem clearFilters_rxlog : (clearFilters N s).rxlog = s.rxlog := rfl
@[simp] theorem clearFilters_port : (clearFilters N s).port = s.port := rfl
@[simp] theorem clearFilters_responses : (clearFilters N s).responses = s.responses := rfl
@[simp] theorem clearFilters_draws : (clearFilters N s).draws = s.draws := rfl
@[simp] theorem clearFilters_cfg : (clearFilters N s).cfg = s.cfg := rfl

/-! ### feedFilters -/

@[simp] theorem feedFilters_sampleRate (x : α) : (feedFilters N x s).sampleRate = s.sampleRate := rfl
@[simp] theorem feedFilters_bitRate (x : α) : (feedFilters N x s).bitRate = s.bitRate := rfl
@[simp] theorem feedFilters_freq0 (x : α) : (feedFilters N x s).freq0 = s.freq0 := rfl
@[simp] theorem feedFilters_freq1 (x : α) : (feedFilters N x s).freq1 = s.freq1 := rfl
@[simp] theorem feedFilters_crcState (x : α) : (feedFilters N x s).crcState = s.crcState := rfl
@[simp] theorem feedFilters_modActive (x : α) : (feedFilters N x s).modActive = s.modActive := rfl
@[simp] theorem feedFilters_modN (x : α) : (feedFilters N x s).modN = s.modN := rfl
@[simp] theorem feedFilters_demActive (x : α) : (feedFilters N x s).demActive = s.demActive := rfl
@[simp] theorem feedFilters_demSkip (x : α) : (feedFilters N x s).demSkip = s.demSkip := rfl
@[simp] theorem feedFilters_demWcnt (x : α) : (feedFilters N x s).demWcnt = s.demWcnt + 1 := rfl
@[simp] theorem feedFilters_demBsr (x : α) : (feedFilters N x s).demBsr = s.demBsr := rfl
@[simp] theorem feedFilters_demBcnt (x : α) : (feedFilters N x s).demBcnt = s.demBcnt := rfl
@[simp] theorem feedFilters_demLastbit (x : α) : (feedFilters N x s).demLastbit = s.demLastbit := rfl
@[simp] theorem feedFilters_pktLen (x : α) : (feedFilters N x s).pktLen = s.pktLen := rfl
@[simp] theorem feedFilters_pktCalc (x : α) : (feedFilters N x s).pktCalc = s.pktCalc := rfl
@[simp] theorem feedFilters_s1_0 (x : α) : (feedFilters N x s).s1_0 = (goertzelStep N (coeff N s.cfg false) (s.s1_0, s.s2_0) x).1 := rfl
@[simp] theorem feedFilters_s2_0 (x : α) : (feedFilters N x s).s2_0 = s.s1_0 := rfl
@[simp] theorem feedFilters_s1_1 (x : α) : (feedFilters N x s).s1_1 = (goertzelStep N (coeff N s.cfg true) (s.s1_1, s.s2_1) x).1 := rfl
@[simp] theorem feedFilters_s2_1 (x : α) : (feedFilters N x s).s2_1 = s.s1_1 := rfl
@[simp] theorem feedFilters_power0 (x : α) : (feedFilters N x s).power0 = s.power0 := rfl
@[simp] theorem feedFilters_power1 (x : α) : (feedFilters N x s).power1 = s.power1 := rfl
@[simp] theorem feedFilters_pbuf (x : α) : (feedFilters N x s).pbuf = s.pbuf := rfl
@[simp] theorem feedFilters_txlog (x : α) : (feedFilters N x s).txlog = s.txlog := rfl
@[simp] theorem feedFilters_rxlog (x : α) : (feedFilters N x s).rxlog = s.rxlog := rfl
@[simp] theorem feedFilters_port (x : α) : (feedFilters N x s).port = s.port := rfl
@[simp] theorem feedFilters_responses (x : α) : (feedFilters N x s).responses = s.responses := rfl
@[simp] theorem feedFilters_draws (x : α) : (feedFilters N x s).draws = s.draws := rfl
@[simp] theorem feedFilters_cfg (x : α) : (feedFilters N x s).cfg = s.cfg := rfl

/-! ### latchPowers -/

@[simp] theorem latchPowers_sampleRate : (latchPowers N s).sampleRate = s.sampleRate := rfl
@[simp] theorem latchPowers_bitRate : (latchPowers N s).bitRate = s.bitRate := rfl
@[simp] theorem latchPowers_freq0 : (latchPowers N s).freq0 = s.freq0 := rfl
@[simp] theorem latchPowers_freq1 : (latchPowers N s).freq1 = s.freq1 := rfl
@[simp] theorem latchPowers_crcState : (latchPowers N s).crcState = s.crcState := rfl
@[simp] theorem latchPowers_modActive : (latchPowers N s).modActive = s.modActive := rfl
@[simp] theorem latchPowers_modN : (latchPowers N s).modN = s.modN := rfl
@[simp] theorem latchPowers_demActive : (latchPowers N s).demActive = s.demActive := rfl
@[simp] theorem latchPowers_demSkip : (latchPowers N s).demSkip = s.demSkip := rfl
@[simp] theorem latchPowers_demWcnt : (latchPowers N s).demWcnt = s.demWcnt := rfl
@[simp] theorem latchPowers_demBsr : (latchPowers N s).demBsr = s.demBsr := rfl
@[simp] theorem latchPowers_demBcnt : (latchPowers N s).demBcnt = s.demBcnt := rfl
@[simp] theorem latchPowers_demLastbit : (latchPowers N s).demLastbit = s.demLastbit := rfl
@[simp] theorem latchPowers_pktLen : (latchPowers N s).pktLen = s.pktLen := rfl
@[simp] theorem latchPowers_pktCalc : (latchPowers N s).pktCalc = s.pktCalc := rfl
@[simp] theorem latchPowers_s1_0 : (latchPowers N s).s1_0 = s.s1_0 := rfl
@[simp] theorem latchPowers_s2_0 : (latchPowers N s).s2_0 = s.s2_0 := rfl
@[simp] theorem latchPowers_s1_1 : (latchPowers N s).s1_1 = s.s1_1 := rfl
@[simp] theorem latchPowers_s2_1 : (latchPowers N s).s2_1 = s.s2_1 := rfl
@[simp] theorem latchPowers_power0 : (latchPowers N s).power0 = power N s.s1_0 s.s2_0 (coeff N s.cfg false) := rfl
@[simp] theorem latchPowers_power1 : (latchPowers N s).power1 = power N s.s1_1 s.s2_1 (coeff N s.cfg true) := rfl
@[simp] theorem latchPowers_pbuf : (latchPowers N s).pbuf = s.pbuf := rfl
@[simp] theorem latchPowers_txlog : (latchPowers N s).txlog = s.txlog := rfl
@[simp] theorem latchPowers_rxlog : (latchPowers N s).rxlog = s.rxlog := rfl
@[simp] theorem latchPowers_port : (latchPowers N s).port = s.port := rfl
@[simp] theorem latchPowers_responses : (latchPowers N s).responses = s.responses := rfl
@[simp] theorem latchPowers_draws : (latchPowers N s).draws = s.draws := rfl
@[simp] theorem latchPowers_cfg : (latchPowers N s).cfg = s.cfg := rfl

/-! ### resetRegisters -/

@[simp] theorem resetRegisters_sampleRate : (resetRegisters N s).sampleRate = 48000 := rfl
@[simp] theorem resetRegisters_bitRate : (resetRegisters N s).bitRate = 1200 := rfl
@[simp] theorem resetRegisters_freq0 : (resetRegisters N s).freq0 = 1200 := rfl
@[simp] theorem resetRegisters_freq1 : (resetRegisters N s).freq1 = 2400 := rfl
@[simp] theorem resetRegisters_crcState : (resetRegisters N s).crcState = 0xFFFFFFFF := rfl
@[simp] theorem resetRegisters_modActive : (resetRegisters N s).modActive = false := rfl
@[simp] theorem resetRegisters_modN : (resetRegisters N s).modN = 0 := rfl
@[simp] theorem resetRegisters_demActive : (resetRegisters N s).demActive = false := rfl
@[simp] theorem resetRegisters_demSkip : (resetRegisters N s).demSkip = 0 := rfl
@[simp] theorem resetRegisters_demWcnt : (resetRegisters N s).demWcnt = 0 := rfl
@[simp] theorem resetRegisters_demBsr : (resetRegisters N s).demBsr = 0 := rfl
@[simp] theorem resetRegisters_demBcnt : (resetRegisters N s).demBcnt = 0 := rfl
@[simp] theorem resetRegisters_demLastbit : (resetRegisters N s).demLastbit = 0 := rfl
@[simp] theorem resetRegisters_pktLen : (resetRegisters N s).pktLen = 0 := rfl
@[simp] theorem resetRegisters_pktCalc : (resetRegisters N s).pktCalc = 0 := rfl
@[simp] theorem resetRegisters_s1_0 : (resetRegisters N s).s1_0 = N.zero := rfl
@[simp] theorem resetRegisters_s2_0 : (resetRegisters N s).s2_0 = N.zero := rfl
@[simp] theorem resetRegisters_s1_1 : (resetRegisters N s).s1_1 = N.zero := rfl
@[simp] theorem resetRegisters_s2_1 : (resetRegisters N s).s2_1 = N.zero := rfl
@[simp] theorem resetRegisters_power0 : (resetRegisters N s).power0 = N.zero := rfl
@[simp] theorem resetRegisters_power1 : (resetRegisters N s).power1 = N.zero := rfl
@[simp] theorem resetRegisters_pbuf : (resetRegisters N s).pbuf = s.pbuf := rfl
@[simp] theorem resetRegisters_txlog : (resetRegisters N s).txlog = s.txlog := rfl
@[simp] theorem resetRegisters_rxlog : (resetRegisters N s).rxlog = s.rxlog := rfl
@[simp] theorem resetRegisters_port : (resetRegisters N s).port = s.port := rfl
@[simp] theorem resetRegisters_responses : (resetRegisters N s).responses = s.responses := rfl
@[simp] theorem resetRegisters_draws : (resetRegisters N s).draws = s.draws := rfl
@[simp] theorem resetRegisters_cfg : (resetRegisters N s).cfg = ⟨48000, 1200, 1200, 2400⟩ := rfl

/-! ### shiftInBit -/

@[simp] theorem shiftInBit_sampleRate (v : Bool) : (shiftInBit v s).sampleRate = s.sampleRate := by
  unfold shiftInBit; split <;> rfl
@[simp] theorem shiftInBit_bitRate (v : Bool) : (shiftInBit v s).bitRate = s.bitRate := by
  unfold shiftInBit; split <;> rfl
@[simp] theorem shiftInBit_freq0 (v : Bool) : (shiftInBit v s).freq0 = s.freq0 := by
  unfold shiftInBit; split <;> rfl
@[simp] theorem shiftInBit_freq1 (v : Bool) : (shiftInBit v s).freq1 = s.freq1 := by
  unfold shiftInBit; split <;> rfl
@[simp] theorem shiftInBit_crcState (v : Bool) : (shiftInBit v s).crcState = s.crcState := by
  unfold shiftInBit; split <;> rfl
@[simp] theorem shiftInBit_modActive (v : Bool) : (shiftInBit v s).modActive = s.modActive := by
  unfold shiftInBit; split <;> rfl
@[simp] theorem shiftInBit_modN (v : Bool) : (shiftInBit v s).modN = s.modN := by
  unfold shiftInBit; split <;> rfl
@[simp] theorem shiftInBit_demActive (v : Bool) : (shiftInBit v s).demActive = s.demActive := by
  unfold shiftInBit; split <;> rfl
@[simp] theorem shiftInBit_demSkip (v : Bool) : (shiftInBit v s).demSkip = s.demSkip := by
  unfold shiftInBit; split <;> rfl
@[simp] theorem shiftInBit_demWcnt (v : Bool) : (shiftInBit v s).demWcnt = s.demWcnt := by
  unfold shiftInBit; split <;> rfl
@[simp] theorem shiftInBit_demLastbit (v : Bool) : (shiftInBit v s).demLastbit = BitVec.ofBool v := by
  unfold shiftInBit; split <;> rfl
@[simp] theorem shiftInBit_pktLen (v : Bool) : (shiftInBit v s).pktLen = s.pktLen := by
  unfold shiftInBit; split <;> rfl
@[simp] theorem shiftInBit_pktCalc (v : Bool) : (shiftInBit v s).pktCalc = s.pktCalc := by
  unfold shiftInBit; split <;> rfl
@[simp] theorem shiftInBit_s1_0 (v : Bool) : (shiftInBit v s).s1_0 = s.s1_0 := by
  unfold shiftInBit; split <;> rfl
@[simp] theorem shiftInBit_s2_0 (v : Bool) : (shiftInBit v s).s2_0 = s.s2_0 := by
  unfold shiftInBit; split <;> rfl
@[simp] theorem shiftInBit_s1_1 (v : Bool) : (shiftInBit v s).s1_1 = s.s1_1 := by
  unfold shiftInBit; split <;> rfl
@[simp] theorem shiftInBit_s2_1 (v : Bool) : (shiftInBit v s).s2_1 = s.s2_1 := by
  unfold shiftInBit; split <;> rfl
@[simp] theorem shiftInBit_power0 (v : Bool) : (shiftInBit v s).power0 = s.power0 := by
  unfold shiftInBit; split <;> rfl
@[simp] theorem shiftInBit_power1 (v : Bool) : (shiftInBit v s).power1 = s.power1 := by
  unfold shiftInBit; split <;> rfl
@[simp] theorem shiftInBit_pbuf (v : Bool) : (shiftInBit v s).pbuf = s.pbuf := by
  unfold shiftInBit; split <;> rfl
@[simp] theorem shiftInBit_txlog (v : Bool) : (shiftInBit v s).txlog = s.txlog := by
  unfold shiftInBit; split <;> rfl
@[simp] theorem shiftInBit_port (v : Bool) : (shiftInBit v s).port = s.port := by
  unfold shiftInBit; split <;> rfl
@[simp] theorem shiftInBit_responses (v : Bool) : (shiftInBit v s).responses = s.responses := by
  unfold shiftInBit; split <;> rfl
@[simp] theorem shiftInBit_draws (v : Bool) : (shiftInBit v s).draws = s.draws := by
  unfold shiftInBit; split <;> rfl
@[simp] theorem shiftInBit_cfg (v : Bool) : (shiftInBit v s).cfg = s.cfg := by
  simp [State.cfg]

/-- The eighth bit emits the byte and clears the register (R37, R198). -/
theorem shiftInBit_full (v : Bool) (h : s.demBcnt = 7) :
    (shiftInBit v s).demBsr = 0 ∧ (shiftInBit v s).demBcnt = 0 ∧
      (shiftInBit v s).rxlog = s.rxlog ++ [(s.demBsr <<< 1) ||| (BitVec.ofBool v).setWidth 8] := by
  simp [shiftInBit, h]

/-- An earlier bit is shifted in and counted (R37, R198). -/
theorem shiftInBit_partial (v : Bool) (h : s.demBcnt ≠ 7) :
    (shiftInBit v s).demBsr = (s.demBsr <<< 1) ||| (BitVec.ofBool v).setWidth 8 ∧
      (shiftInBit v s).demBcnt = s.demBcnt + 1 ∧ (shiftInBit v s).rxlog = s.rxlog := by
  simp [shiftInBit, h]

/-! ### writeReg: it touches the configuration and CRC_STATE only -/

@[simp] theorem writeReg_modActive (r : IntReg) (v : Word) : (writeReg r v s).modActive = s.modActive := by cases r <;> rfl
@[simp] theorem writeReg_modN (r : IntReg) (v : Word) : (writeReg r v s).modN = s.modN := by cases r <;> rfl
@[simp] theorem writeReg_demActive (r : IntReg) (v : Word) : (writeReg r v s).demActive = s.demActive := by cases r <;> rfl
@[simp] theorem writeReg_demSkip (r : IntReg) (v : Word) : (writeReg r v s).demSkip = s.demSkip := by cases r <;> rfl
@[simp] theorem writeReg_demWcnt (r : IntReg) (v : Word) : (writeReg r v s).demWcnt = s.demWcnt := by cases r <;> rfl
@[simp] theorem writeReg_demBsr (r : IntReg) (v : Word) : (writeReg r v s).demBsr = s.demBsr := by cases r <;> rfl
@[simp] theorem writeReg_demBcnt (r : IntReg) (v : Word) : (writeReg r v s).demBcnt = s.demBcnt := by cases r <;> rfl
@[simp] theorem writeReg_demLastbit (r : IntReg) (v : Word) : (writeReg r v s).demLastbit = s.demLastbit := by cases r <;> rfl
@[simp] theorem writeReg_pktLen (r : IntReg) (v : Word) : (writeReg r v s).pktLen = s.pktLen := by cases r <;> rfl
@[simp] theorem writeReg_pktCalc (r : IntReg) (v : Word) : (writeReg r v s).pktCalc = s.pktCalc := by cases r <;> rfl
@[simp] theorem writeReg_s1_0 (r : IntReg) (v : Word) : (writeReg r v s).s1_0 = s.s1_0 := by cases r <;> rfl
@[simp] theorem writeReg_s2_0 (r : IntReg) (v : Word) : (writeReg r v s).s2_0 = s.s2_0 := by cases r <;> rfl
@[simp] theorem writeReg_s1_1 (r : IntReg) (v : Word) : (writeReg r v s).s1_1 = s.s1_1 := by cases r <;> rfl
@[simp] theorem writeReg_s2_1 (r : IntReg) (v : Word) : (writeReg r v s).s2_1 = s.s2_1 := by cases r <;> rfl
@[simp] theorem writeReg_power0 (r : IntReg) (v : Word) : (writeReg r v s).power0 = s.power0 := by cases r <;> rfl
@[simp] theorem writeReg_power1 (r : IntReg) (v : Word) : (writeReg r v s).power1 = s.power1 := by cases r <;> rfl
@[simp] theorem writeReg_pbuf (r : IntReg) (v : Word) : (writeReg r v s).pbuf = s.pbuf := by cases r <;> rfl
@[simp] theorem writeReg_txlog (r : IntReg) (v : Word) : (writeReg r v s).txlog = s.txlog := by cases r <;> rfl
@[simp] theorem writeReg_rxlog (r : IntReg) (v : Word) : (writeReg r v s).rxlog = s.rxlog := by cases r <;> rfl
@[simp] theorem writeReg_port (r : IntReg) (v : Word) : (writeReg r v s).port = s.port := by cases r <;> rfl
@[simp] theorem writeReg_responses (r : IntReg) (v : Word) : (writeReg r v s).responses = s.responses := by cases r <;> rfl
@[simp] theorem writeReg_draws (r : IntReg) (v : Word) : (writeReg r v s).draws = s.draws := by cases r <;> rfl

/-! ### closeWindow -/

@[simp] theorem closeWindow_sampleRate : (closeWindow N s).sampleRate = s.sampleRate := by simp [closeWindow]
@[simp] theorem closeWindow_bitRate : (closeWindow N s).bitRate = s.bitRate := by simp [closeWindow]
@[simp] theorem closeWindow_freq0 : (closeWindow N s).freq0 = s.freq0 := by simp [closeWindow]
@[simp] theorem closeWindow_freq1 : (closeWindow N s).freq1 = s.freq1 := by simp [closeWindow]
@[simp] theorem closeWindow_crcState : (closeWindow N s).crcState = s.crcState := by simp [closeWindow]
@[simp] theorem closeWindow_modActive : (closeWindow N s).modActive = s.modActive := by simp [closeWindow]
@[simp] theorem closeWindow_modN : (closeWindow N s).modN = s.modN := by simp [closeWindow]
@[simp] theorem closeWindow_demActive : (closeWindow N s).demActive = s.demActive := by simp [closeWindow]
@[simp] theorem closeWindow_demSkip : (closeWindow N s).demSkip = s.demSkip := by simp [closeWindow]
@[simp] theorem closeWindow_demWcnt : (closeWindow N s).demWcnt = 0 := by simp [closeWindow]
@[simp] theorem closeWindow_pktLen : (closeWindow N s).pktLen = s.pktLen := by simp [closeWindow]
@[simp] theorem closeWindow_pktCalc : (closeWindow N s).pktCalc = s.pktCalc := by simp [closeWindow]
@[simp] theorem closeWindow_s1_0 : (closeWindow N s).s1_0 = N.zero := by simp [closeWindow]
@[simp] theorem closeWindow_s2_0 : (closeWindow N s).s2_0 = N.zero := by simp [closeWindow]
@[simp] theorem closeWindow_s1_1 : (closeWindow N s).s1_1 = N.zero := by simp [closeWindow]
@[simp] theorem closeWindow_s2_1 : (closeWindow N s).s2_1 = N.zero := by simp [closeWindow]
@[simp] theorem closeWindow_pbuf : (closeWindow N s).pbuf = s.pbuf := by simp [closeWindow]
@[simp] theorem closeWindow_txlog : (closeWindow N s).txlog = s.txlog := by simp [closeWindow]
@[simp] theorem closeWindow_port : (closeWindow N s).port = s.port := by simp [closeWindow]
@[simp] theorem closeWindow_responses : (closeWindow N s).responses = s.responses := by simp [closeWindow]
@[simp] theorem closeWindow_draws : (closeWindow N s).draws = s.draws := by simp [closeWindow]
@[simp] theorem closeWindow_power0 : (closeWindow N s).power0 = power N s.s1_0 s.s2_0 (coeff N s.cfg false) := by
  simp [closeWindow]
@[simp] theorem closeWindow_power1 : (closeWindow N s).power1 = power N s.s1_1 s.s2_1 (coeff N s.cfg true) := by
  simp [closeWindow]
@[simp] theorem closeWindow_cfg : (closeWindow N s).cfg = s.cfg := by simp [State.cfg]

end Sys2Proof.Machine
end

