-- ==== Sys2Proof/Laws/Ops.lean ====
section
/-! SUPPORT. For each shared operation, once, everything it can do. -/

namespace Sys2Proof.Machine

variable {α : Type}

/-! ### Answering -/

@[simp] theorem answer_next (c : RespCode) (d : DataLane α) (s : State α) : answer c d s = .next (respond c d s) := rfl

@[simp] theorem raise_next (c : RespCode) (s : State α) : raise c s = .next (respond c .none s) := rfl

@[simp] theorem rejectIllegal_next (s : State α) : rejectIllegal s = .next (respond .errIllegal .none s) := rfl

@[simp] theorem lastResponse_respond (c : RespCode) (d : DataLane) (s : State) :
    lastResponse (respond c d s) = some ⟨c, d⟩ := by
  simp [lastResponse]

/-- A unit's part of the state does not depend on the responses. -/
theorem sameBlock_respond (c : RespCode) (d : DataLane) (s : State) : SameBlock s (respond c d s) := by
  simp [SameBlock, SameConfig, SameCrc, SameModulator, SameDetector, SamePacket, SamePbuf]

/-! ### Reading PBUF -/

theorem memRead_written {a : Byte} {s : State α} {v : Byte} (h : s.pbuf.find a.toNat = some v) :
    memRead a s = (v, s) := by
  simp [memRead, h]

theorem memRead_unwritten {a : Byte} {s : State α} (h : s.pbuf.find a.toNat = none) :
    memRead a s = (Config.draw s.draws a, { s with draws := s.draws + 1 }) := by
  simp [memRead, h]

/-- A read changes nothing but the count of draws. -/
theorem memRead_state (a : Byte) (s : State α) : (memRead a s).2 = { s with draws := (memRead a s).2.draws } := by
  unfold memRead
  split <;> rfl

@[simp] theorem memRead_pbuf (a : Byte) (s : State α) : (memRead a s).2.pbuf = s.pbuf := by
  rw [memRead_state]

@[simp] theorem memReads_nil (s : State α) : memReads [] s = ([], s) := rfl

/-- Reads change nothing but the count of draws. -/
theorem memReads_state (as : List Byte) (s : State α) :
    (memReads as s).2 = { s with draws := (memReads as s).2.draws } := by
  induction as generalizing s with
  | nil => rfl
  | cons a as ih =>
    simp only [memReads]
    rw [ih, memRead_state]

@[simp] theorem memReads_pbuf (as : List Byte) (s : State α) : (memReads as s).2.pbuf = s.pbuf := by
  rw [memReads_state]

@[simp] theorem memReads_responses (as : List Byte) (s : State α) : (memReads as s).2.responses = s.responses := by
  rw [memReads_state]

@[simp] theorem memReads_length (as : List Byte) (s : State α) : (memReads as s).1.length = as.length := by
  induction as generalizing s with
  | nil => rfl
  | cons a as ih => simp [memReads, ih]

/-- Where every byte is written, reads give what PBUF holds and change nothing. -/
theorem memReads_written {as : List Byte} {s : State α} {vs : List Byte}
    (h : as.map (fun a => s.pbuf.find a.toNat) = vs.map some) : memReads as s = (vs, s) := by
  induction as generalizing vs with
  | nil =>
    cases vs with
    | nil => rfl
    | cons v vs => simp at h
  | cons a as ih =>
    cases vs with
    | nil => simp at h
    | cons v vs =>
      simp only [List.map_cons, List.cons.injEq] at h
      simp [memReads, memRead_written h.1, ih h.2]

/-! ### Writing PBUF -/

@[simp] theorem memWrites_nil (a : Byte) (s : State α) : memWrites a [] s = s := rfl

/-- Writes change nothing but PBUF. -/
theorem memWrites_state (a : Byte) (vs : List Byte) (s : State α) :
    memWrites a vs s = { s with pbuf := (memWrites a vs s).pbuf } := by
  induction vs generalizing a s with
  | nil => rfl
  | cons v vs ih =>
    simp only [memWrites]
    rw [ih]
    rfl

theorem memWrites_responses (a : Byte) (vs : List Byte) (s : State α) :
    (memWrites a vs s).responses = s.responses := by
  rw [memWrites_state]

/-- A write keeps PBUF's canonical form. -/
theorem memWrite_wf (a v : Byte) {s : State α} (h : s.pbuf.wf) : (memWrite a v s).pbuf.wf :=
  Memory.wf_store h a.isLt v

theorem memWrites_wf (a : Byte) (vs : List Byte) {s : State α} (h : s.pbuf.wf) : (memWrites a vs s).pbuf.wf := by
  induction vs generalizing a s with
  | nil => exact h
  | cons v vs ih => exact ih (a + 1) (memWrite_wf a v h)

/-- The four checksum bytes are stored at 7 to 10 and every other byte stays (R145). -/
theorem memWrites_checksum_find (c : Word) (s : State α) (a : Nat) :
    (memWrites 7 (be32 c) s).pbuf.find a =
      if a = 7 then some (c.extractLsb' 24 8) else if a = 8 then some (c.extractLsb' 16 8)
      else if a = 9 then some (c.extractLsb' 8 8) else if a = 10 then some (c.extractLsb' 0 8)
      else s.pbuf.find a := by
  have h7 : ((7 : Byte)).toNat = 7 := rfl
  have h8 : ((7 : Byte) + 1).toNat = 8 := rfl
  have h9 : ((7 : Byte) + 1 + 1).toNat = 9 := rfl
  have h10 : ((7 : Byte) + 1 + 1 + 1).toNat = 10 := rfl
  simp only [be32, memWrites, memWrite_pbuf, h7, h8, h9, h10, Memory.find_store]
  split_ifs <;> first | rfl | omega

/-! ### The modulator -/

@[simp] theorem bitSamples_length (N : Numerics α) (c : Cfg) (v : Bool) (n : Nat) :
    (bitSamples N c v n).length = spb c := by
  simp [bitSamples]

@[simp] theorem preamble_length : preamble.length = 16 := by simp [preamble, Config.preambleBits]

@[simp] theorem bitsMSB_length (b : Byte) : (bitsMSB b).length = 8 := rfl

/-- Sending bits changes TXLOG and MOD_N only. -/
theorem sendBits_state (N : Numerics α) (vs : List Bool) (s : State α) :
    sendBits N vs s = { s with txlog := (sendBits N vs s).txlog, modN := (sendBits N vs s).modN } := by
  induction vs generalizing s with
  | nil => rfl
  | cons v vs ih =>
    simp only [sendBits]
    rw [ih]
    rfl

@[simp] theorem sendBits_cfg (N : Numerics α) (vs : List Bool) (s : State α) : (sendBits N vs s).cfg = s.cfg := by
  rw [sendBits_state]
  rfl

/-- Each bit advances MOD_N by SPB (R34, R175). -/
theorem sendBits_modN (N : Numerics α) (vs : List Bool) (s : State α) :
    (sendBits N vs s).modN = s.modN + BitVec.ofNat 32 (vs.length * spb s.cfg) := by
  induction vs generalizing s with
  | nil => simp [sendBits]
  | cons v vs ih =>
    simp only [sendBits, ih, sendBit_modN, sendBit_cfg, List.length_cons, Nat.succ_mul]
    rw [BitVec.add_assoc, ← BitVec.ofNat_add, Nat.add_comm]

/-- SPB never passes SPB_MAX (R29, R30). -/
theorem spb_le (c : Cfg) : spb c ≤ Config.spbMax := by
  unfold spb
  split
  · rename_i h
    simp only [cfgLegal, Bool.and_eq_true, decide_eq_true_eq] at h
    exact h.2
  · exact Nat.zero_le _

/-- A legal configuration has at least one sample per bit. -/
theorem spb_pos {c : Cfg} (h : cfgLegal c = true) : 0 < spb c := by
  have h' := h
  simp only [cfgLegal, Bool.and_eq_true, decide_eq_true_eq, beq_iff_eq] at h'
  obtain ⟨⟨⟨h1, h2⟩, h3⟩, -⟩ := h'
  simp only [spb, h, if_true]
  exact Nat.div_pos (Nat.le_of_dvd h1 (Nat.dvd_of_mod_eq_zero h3)) h2

/-- One sample sent as R175's loop body writes it: emitted at MOD_N, which then advances by 1. -/
def sendSample (N : Numerics α) (v : Bool) (s : State α) : State α :=
  { emitTX [toneSample N s.cfg v s.modN.toNat] s with modN := s.modN + 1 }

/-- The loop of R175: so many samples sent one by one. -/
def sendSamples (N : Numerics α) (v : Bool) : Nat → State α → State α
  | 0, s => s
  | n + 1, s => sendSamples N v n (sendSample N v s)

theorem sendSamples_eq (N : Numerics α) (v : Bool) (n : Nat) (s : State α) (h : s.modN.toNat + n < 2 ^ 32) :
    sendSamples N v n s =
      { s with
        txlog := s.txlog ++ (List.range n).map fun j => toneSample N s.cfg v (s.modN.toNat + j)
        modN := s.modN + BitVec.ofNat 32 n } := by
  induction n generalizing s with
  | zero => simp [sendSamples]
  | succ n ih =>
    have h1 : (s.modN + 1).toNat = s.modN.toNat + 1 := by
      rw [BitVec.toNat_add]
      exact Nat.mod_eq_of_lt (by show _ + 1 < _; omega)
    have hs : (sendSample N v s).modN.toNat = s.modN.toNat + 1 := h1
    rw [sendSamples, ih _ (by rw [hs]; omega), hs]
    have hc : (sendSample N v s).cfg = s.cfg := rfl
    rw [hc]
    simp only [sendSample, emitTX, List.append_assoc, List.singleton_append]
    congr 1
    · rw [BitVec.add_assoc]
      congr 1
      rw [Nat.add_comm n 1, BitVec.ofNat_add]
      rfl
    · rw [List.range_succ_eq_map]
      simp [Nat.add_assoc, Nat.add_comm]

/-- `sendBit` is the loop of R175, sample by sample, wherever MOD_N does not pass its width. -/
theorem sendBit_eq_loop (N : Numerics α) (v : Bool) (s : State α) (h : s.modN.toNat + spb s.cfg < 2 ^ 32) :
    sendBit N v s = sendSamples N v (spb s.cfg) s := by
  rw [sendSamples_eq N v _ s h]
  rfl

end Sys2Proof.Machine
end

