-- ==== Sys2Proof/Laws/PerInstr.lean ====
section
/-! SUPPORT. One lemma per command: its transaction has the fields and the data-lane kind its row of R87 asks for
(30_encoding.md R81 to R84). -/

namespace Sys2Proof.Laws.EncodeFields

/-- The opcode is the row's, RSV is 0, an operand field the row does not use is 0, and the lane is of the row's kind. -/
def Statement (i : Instr) : Prop :=
  opcField (encode i).word = i.mnemonic.opcode ∧ rsvField (encode i).word = 0 ∧
  (i.mnemonic.usesA = false → aField (encode i).word = 0) ∧
  (i.mnemonic.usesB = false → bField (encode i).word = 0) ∧
  (encode i).data.kind = i.mnemonic.laneIn

theorem nop : Statement .nop := by simp [Statement, encode, Instr.mnemonic]; rfl
theorem reset : Statement .reset := by simp [Statement, encode, Instr.mnemonic]; rfl
theorem regRd (r : Byte) : Statement (.regRd r) := by simp [Statement, encode, Instr.mnemonic, Mnemonic.usesB]; rfl
theorem regWr (r : Byte) (v : Word) : Statement (.regWr r v) := by
  simp [Statement, encode, Instr.mnemonic, Mnemonic.usesB]; rfl
theorem sregRd (r : Byte) : Statement (.sregRd r) := by simp [Statement, encode, Instr.mnemonic, Mnemonic.usesB]; rfl
theorem crcInit : Statement .crcInit := by simp [Statement, encode, Instr.mnemonic]; rfl
theorem crcByte (b : Byte) : Statement (.crcByte b) := by simp [Statement, encode, Instr.mnemonic, Mnemonic.usesB]; rfl
theorem crcCheck (e : Word) : Statement (.crcCheck e) := by simp [Statement, encode, Instr.mnemonic]; rfl
theorem bufWr (a b : Byte) : Statement (.bufWr a b) := by
  simp [Statement, encode, Instr.mnemonic, Mnemonic.usesA, Mnemonic.usesB]; rfl
theorem bufRd (a : Byte) : Statement (.bufRd a) := by simp [Statement, encode, Instr.mnemonic, Mnemonic.usesA]; rfl
theorem pktSeal : Statement .pktSeal := by simp [Statement, encode, Instr.mnemonic]; rfl
theorem pktCheck (m : Word) : Statement (.pktCheck m) := by simp [Statement, encode, Instr.mnemonic]; rfl
theorem modStart : Statement .modStart := by simp [Statement, encode, Instr.mnemonic]; rfl
theorem modByte (b : Byte) : Statement (.modByte b) := by simp [Statement, encode, Instr.mnemonic, Mnemonic.usesB]; rfl
theorem modEnd : Statement .modEnd := by simp [Statement, encode, Instr.mnemonic]; rfl
theorem demStart : Statement .demStart := by simp [Statement, encode, Instr.mnemonic]; rfl
theorem demSample (x : Sample) : Statement (.demSample x) := by simp [Statement, encode, Instr.mnemonic]; rfl
theorem demEnd : Statement .demEnd := by simp [Statement, encode, Instr.mnemonic]; rfl

end Sys2Proof.Laws.EncodeFields
end

