-- ==== Sys2Proof/Tests/Slice0.lean ====
section
/-! SUPPORT. Tests of single steps, with the expected results of spec/95_test_vectors.md or of the rules' own examples, and
for every statement with hypotheses a state and operands that meet them. -/

namespace Sys2Proof.Tests

open Sys2Proof.Machine

/-- The state after an outcome that has one. -/
def after : Host.Outcome State Fault Refusal → State
  | .next s => s
  | .fault _ => State.reset
  | .refused _ => State.reset

/-! ### Decoding: words written out from R81 and R87 -/

theorem test_decode_control :
    decode ⟨0x00000000, .none⟩ = .ok .nop ∧ decode ⟨0x01000000, .none⟩ = .ok .reset ∧
    decode ⟨0x02000012, .none⟩ = .ok (.regRd 0x12) ∧ decode ⟨0x03000001, .u32 0x100000⟩ = .ok (.regWr 0x01 0x100000) ∧
    decode ⟨0x04000007, .none⟩ = .ok (.sregRd 0x07) := ⟨rfl, rfl, rfl, rfl, rfl⟩

theorem test_decode_crc :
    decode ⟨0x10000000, .none⟩ = .ok .crcInit ∧ decode ⟨0x11000031, .none⟩ = .ok (.crcByte 0x31) ∧
    decode ⟨0x12000000, .u32 0xCBF43926⟩ = .ok (.crcCheck 0xCBF43926) := ⟨rfl, rfl, rfl⟩

theorem test_decode_packet :
    decode ⟨0x20000C69, .none⟩ = .ok (.bufWr 12 0x69) ∧ decode ⟨0x21000A00, .none⟩ = .ok (.bufRd 10) ∧
    decode ⟨0x22000000, .none⟩ = .ok .pktSeal ∧ decode ⟨0x23000000, .u32 257⟩ = .ok (.pktCheck 257) :=
  ⟨rfl, rfl, rfl, rfl⟩

theorem test_decode_modulator :
    decode ⟨0x30000000, .none⟩ = .ok .modStart ∧ decode ⟨0x310000A5, .none⟩ = .ok (.modByte 0xA5) ∧
    decode ⟨0x32000000, .none⟩ = .ok .modEnd := ⟨rfl, rfl, rfl⟩

theorem test_decode_detector :
    decode ⟨0x40000000, .none⟩ = .ok .demStart ∧ decode ⟨0x41000000, .sample ⟨5⟩⟩ = .ok (.demSample ⟨5⟩) ∧
    decode ⟨0x42000000, .none⟩ = .ok .demEnd := ⟨rfl, rfl, rfl⟩

/-- V-E1 to V-E5, V-E14, V-D18. -/
theorem test_decode_rejects :
    decode ⟨0x05000000, .none⟩ = .error .undefinedOpcode ∧ decode ⟨0x00010000, .none⟩ = .error .reservedNonzero ∧
    decode ⟨0x00000001, .none⟩ = .error .unusedBNonzero ∧ decode ⟨0x10000000, .u32 0⟩ = .error .wrongLane ∧
    decode ⟨0x21000001, .none⟩ = .error .unusedBNonzero ∧ decode ⟨0xFF010203, .u32 5⟩ = .error .undefinedOpcode ∧
    decode ⟨0x41000000, .u32 0⟩ = .error .wrongLane ∧ decode ⟨0x02000100, .none⟩ = .error .unusedANonzero :=
  ⟨rfl, rfl, rfl, rfl, rfl, rfl, rfl, rfl⟩

theorem test_table_words :
    decodeTableWord 32 0x41000000 = some (.demSample ⟨0⟩) ∧ decodeTableWord 32 0x03000008 = some (.regWr 0x08 0) ∧
    decodeTableWord 32 0x4300FF00 = none := ⟨rfl, rfl, rfl⟩

/-! ### WellFormed: each check refuses an ill-formed term -/

theorem test_wellFormed_refuses :
    (⟨0x05000000, .none⟩ : Transaction).opcodeDefined = false ∧ (⟨0x00010000, .none⟩ : Transaction).reservedClear = false ∧
    (⟨0x21000001, .none⟩ : Transaction).unusedBClear = false ∧ (⟨0x02000100, .none⟩ : Transaction).unusedAClear = false ∧
    (⟨0x21000001, .none⟩ : Transaction).unusedAClear = true ∧ (⟨0x02000100, .none⟩ : Transaction).unusedBClear = true ∧
    (⟨0x02000100, .none⟩ : Transaction).unusedClear = false ∧
    (⟨0x41000000, .u32 0⟩ : Transaction).laneFits = false ∧ (⟨0x41000000, .u32 0⟩ : Transaction).wellFormed = false ∧
    (⟨0x200006F6, .none⟩ : Transaction).wellFormed = true := by decide

theorem test_operands_refuse :
    fitsByte 256 = false ∧ fitsByte 255 = true ∧ fitsWord 4294967296 = false ∧
    (Pseudo.bufFill 0xFF [1, 2]).wellFormed = false ∧ (Pseudo.bufFill 0xFF [1]).wellFormed = true ∧
    (Pseudo.pktBuild 1 0 (List.replicate 246 0)).wellFormed = false ∧
    (Pseudo.pktVerify (List.replicate 257 0)).wellFormed = false := by decide +kernel

/-- R91: lines of 95_test_vectors.md. -/
theorem test_assembleText :
    (assembleText "REG_WR SAMPLE_RATE, 0x100000").toOption = some ⟨0x03000001, .u32 0x100000⟩ ∧
    (assembleText "BUF_WR 11, 0x48").toOption = some ⟨0x20000B48, .none⟩ ∧
    (assembleText "MOD_START").toOption = some ⟨0x30000000, .none⟩ ∧
    (assembleText "BUF_WR 256, 0").toOption = none ∧ (assembleText "BUF_WR 0, 0x100").toOption = none := by decide +kernel

/-- R91: a sample operand is a decimal literal; hexadecimal is for integer operands. -/
theorem test_assemble_sample :
    (assembleText "DEM_SAMPLE 0x10").toOption = none ∧
    (assembleText "DEM_SAMPLE 16").toOption = some ⟨0x41000000, .sample (Config.sampleOfDecimal false 16 0)⟩ ∧
    (assembleText "DEM_SAMPLE -0.25").toOption = some ⟨0x41000000, .sample (Config.sampleOfDecimal true 25 2)⟩ :=
  ⟨rfl, rfl, rfl⟩

/-! ### The CRC unit (95_test_vectors.md §2.2) -/

theorem test_crcTable :
    crcTable 0 = 0x00000000 ∧ crcTable 1 = 0x77073096 ∧ crcTable 2 = 0xEE0E612C ∧ crcTable 3 = 0x990951BA ∧
    crcTable 4 = 0x076DC419 ∧ crcTable 8 = 0x0EDB8832 ∧ crcTable 16 = 0x1DB71064 ∧ crcTable 128 = 0xEDB88320 ∧
    crcTable 255 = 0x2D02EF8D := by decide +kernel

/-- The check value of R123 and V-K1, V-K4, V-K5, V-K7. -/
theorem test_crc32 :
    crc32 [0x31, 0x32, 0x33, 0x34, 0x35, 0x36, 0x37, 0x38, 0x39] = 0xCBF43926 ∧ crc32 [] = 0 ∧
    crc32 [0] = 0xD202EF8D ∧ crc32 [0xFF] = 0xFF000000 ∧ crc32 [0, 0, 0, 0] = 0x2144DF1C := by decide +kernel

/-- R125's example. -/
theorem test_crcByte : (after (exec (.crcByte 0x31) State.reset)).crcState = 0x7C231048 := by decide +kernel

/-- V-K8, and a mismatch. -/
theorem test_crcCheck :
    exec (.crcCheck 0) State.reset = .next (respond .ok (.u32 0) State.reset) ∧
    exec (.crcCheck 1) State.reset = .next (respond .integrityError (.u32 0) State.reset) := ⟨rfl, rfl⟩

/-! ### Control (95_test_vectors.md §2.1, §2.7) -/

/-- V-R1. -/
theorem test_reset_registers :
    readReg .status State.reset = 4 ∧ readReg .spb State.reset = 40 ∧ readReg .k0 State.reset = 1 ∧
    readReg .k1 State.reset = 2 ∧ readReg .crcResult State.reset = 0 := by decide +kernel

/-- V-C5 and V-C6: SPB_MAX is legal, one more is not. -/
theorem test_spbMax :
    spb ⟨0x100000, 1, 1200, 2400⟩ = 1048576 ∧ cfgLegal ⟨0x100001, 1, 1200, 2400⟩ = false ∧
    spb ⟨0x100001, 1, 1200, 2400⟩ = 0 := by decide +kernel

/-- V-D17: ties round up. -/
theorem test_roundDiv :
    roundDiv (40 * 600) 48000 = 1 ∧ roundDiv (40 * 1800) 48000 = 2 ∧ roundDiv (40 * 100) 48000 = 0 ∧
    roundDiv (40 * 24000) 48000 = 20 := by decide +kernel

/-- V-C8, V-C9, V-C10. -/
theorem test_registers_refuse :
    exec (.regWr 0x05 1) State.reset = .next (respond .errArg .none State.reset) ∧
    exec (.regRd 0x12) State.reset = .next (respond .errArg .none State.reset) ∧
    exec (.sregRd 0x08) State.reset = .next (respond .errArg .none State.reset) := ⟨rfl, rfl, rfl⟩

/-- A state with a stream open and something in PBUF. -/
def openState : State := { State.reset with modActive := true, freq0 := 1000, pbuf := [(3, 0x77)] }

/-- V-C13, and V-E13: ARG before BUSY. -/
theorem test_regWr_open :
    exec (.regWr 0x03 1000) openState = .next (respond .errBusy .none openState) ∧
    exec (.regWr 0x05 1) openState = .next (respond .errArg .none openState) := ⟨rfl, rfl⟩

/-- V-R4: RESET keeps PBUF and closes the stream. -/
theorem test_reset_command : exec .reset openState =
    .next (respond .ok .none { State.reset with pbuf := [(3, 0x77)] }) := rfl

/-! ### Packets (95_test_vectors.md §2.3) -/

/-- PBUF holding a byte sequence from address 0 on. -/
def withBytes (bs : List Byte) : State :=
  { State.reset with pbuf := (List.range bs.length).zip bs }

/-- The sealed frame of V-P1. -/
def hiFrame : List Byte :=
  [0x01, 0x00, 0x00, 0x00, 0x01, 0x00, 0x02, 0xC3, 0x58, 0xE1, 0xC2, 0x48, 0x69]

/-- V-P1 from any checksum bytes. -/
theorem test_pktSeal :
    let t := after (exec .pktSeal (withBytes [0x01, 0, 0, 0, 0x01, 0, 0x02, 9, 9, 9, 9, 0x48, 0x69]))
    lastResponse t = some ⟨.ok, .u32 0xC358E1C2⟩ ∧ t.pbuf = (withBytes hiFrame).pbuf ∧ t.pktLen = 2 ∧
      t.pktCalc = 0xC358E1C2 ∧ t.draws = 0 := by decide +kernel

/-- V-P14: nothing is written. -/
theorem test_pktSeal_tooLarge :
    exec .pktSeal (withBytes [1, 0, 0, 0, 1, 0x00, 0xF6]) =
      .next (respond .payloadTooLarge .none (withBytes [1, 0, 0, 0, 1, 0x00, 0xF6])) := rfl

/-- V-P5, V-P11 (unwritten trailing bytes), V-P6, V-P8. -/
theorem test_pktCheck_verdicts :
    lastResponse (after (exec (.pktCheck 13) (withBytes hiFrame))) = some ⟨.ok, .u32 0xC358E1C2⟩ ∧
    lastResponse (after (exec (.pktCheck 20) (withBytes hiFrame))) = some ⟨.ok, .u32 0xC358E1C2⟩ ∧
    lastResponse (after (exec (.pktCheck 13) (withBytes (hiFrame.set 11 0x49)))) =
      some ⟨.integrityError, .u32 0xDA43D083⟩ ∧
    lastResponse (after (exec (.pktCheck 13) (withBytes (hiFrame.set 6 0x06)))) = some ⟨.framingError, .none⟩ := by
  decide +kernel

/-- V-P12, V-P13. -/
theorem test_pktCheck_refuses :
    exec (.pktCheck 10) State.reset = .next (respond .framingError .none State.reset) ∧
    exec (.pktCheck 257) State.reset = .next (respond .errArg .none State.reset) := ⟨rfl, rfl⟩

/-- V-P16, and the draw of an unwritten byte counted (V-R3). -/
theorem test_bufRd :
    exec (.bufRd 7) (withBytes hiFrame) = .next (respond .ok (.u32 0xC3) (withBytes hiFrame)) ∧
    exec (.bufRd 0) State.reset =
      .next (respond .ok (.u32 ((Config.draw 0 0).setWidth 32)) { State.reset with draws := 1 }) := ⟨rfl, rfl⟩

/-- BUF_WR keeps the canonical form: below, between and over a written byte. -/
theorem test_bufWr :
    (memWrite 5 1 { State.reset with pbuf := [(3, 7), (9, 8)] }).pbuf = [(3, 7), (5, 1), (9, 8)] ∧
    (memWrite 3 0 { State.reset with pbuf := [(3, 7), (9, 8)] }).pbuf = [(3, 0), (9, 8)] := by decide

/-! ### The modulator (95_test_vectors.md §2.4) -/

/-- V-M1: MOD_N, the length of TXLOG, STATUS. -/
theorem test_modStart :
    let t := after (exec .modStart State.reset)
    t.modN = 640 ∧ t.txlog.length = 640 ∧ readReg .status t = 5 := by decide +kernel

/-- V-M3 after the preamble, at SPB 1: 0xA5 is sent as 1,0,1,0,0,1,0,1. -/
theorem test_modByte :
    (after (exec (.modByte 0xA5) { State.reset with
      sampleRate := 1, bitRate := 1, freq0 := 1, freq1 := 2, modActive := true, modN := 16 })).txlog =
    [Config.num.tone 2 1 16, Config.num.tone 1 1 17, Config.num.tone 2 1 18, Config.num.tone 1 1 19,
     Config.num.tone 1 1 20, Config.num.tone 2 1 21, Config.num.tone 1 1 22, Config.num.tone 2 1 23] := rfl

/-- V-M12, and R176's overflow at its boundary: 320 samples more than 2^32 − 1 allows. -/
theorem test_modByte_refuses :
    exec (.modByte 0) State.reset = .next (respond .errState .none State.reset) ∧
    exec (.modByte 0) { State.reset with modActive := true, modN := 4294966976 } =
      .next (respond .errOverflow .none { State.reset with modActive := true, modN := 4294966976 }) := ⟨rfl, rfl⟩

/-- V-E10, V-E12. -/
theorem test_modStart_refuses :
    exec .modStart { State.reset with bitRate := 7 } =
      .next (respond .errConfig .none { State.reset with bitRate := 7 }) ∧
    exec .modStart { State.reset with bitRate := 7, modActive := true } =
      .next (respond .errState .none { State.reset with bitRate := 7, modActive := true }) := ⟨rfl, rfl⟩

/-! ### The detector (95_test_vectors.md §2.5) -/

/-- R197's example, and V-E11. -/
theorem test_demStart :
    exec .demStart State.reset = .next (respond .ok .none { State.reset with demSkip := 640, demActive := true }) ∧
    exec .demStart { State.reset with bitRate := 0 } =
      .next (respond .errConfig .none { State.reset with bitRate := 0 }) := ⟨rfl, rfl⟩

/-- A preamble sample is not examined (R198). -/
theorem test_demSample_skips :
    exec (.demSample ⟨7⟩) { State.reset with demActive := true, demSkip := 1 } =
      .next (respond .ok .none { State.reset with demActive := true }) := rfl

/-- The eighth bit of a byte whose first seven are 0101001 (V-D10's 0x52 is 1010010; here the other phase), at SPB = 1:
the window completes with one sample (R198). -/
theorem test_demSample_byte : ∃ t,
    exec (.demSample ⟨7⟩) { State.reset with sampleRate := 1, bitRate := 1, demActive := true, demBsr := 0x29, demBcnt := 7 } =
      .next t ∧ t.demBsr = 0 ∧ t.demBcnt = 0 ∧ t.demWcnt = 0 ∧ t.rxlog.length = 1 ∧ t.s1_0 = Config.num.zero :=
  ⟨_, rfl, by rfl, by rfl, by rfl, by rfl, rfl⟩

/-- DEM_END discards a partial byte (R199). -/
theorem test_demEnd :
    exec .demEnd { State.reset with demActive := true, demBsr := 0x52, demBcnt := 7, demWcnt := 39 } =
      .next (respond .ok .none State.reset) := rfl

/-! ### NUM_F64: R14, on inputs evaluated as R14 says, and results of V-D3 and V-D8 -/

/-- The window of V-D1 under binary64, 0.8·sin(((2π·1200)·i)/48000). -/
def toneWindow0 : List F64 :=
  [0x0, 0x3fc004d5ec86a92b, 0x3fcfa4b1f1e64218, 0x3fd73e8b55d0b19a, 0x3fde183807222a30,
   0x3fe21a1851ff630a, 0x3fe4b5f949465d54, 0x3fe6cf4ce430f057, 0x3fe858d80f69dd99, 0x3fe948ea1026504a,
   0x3fe999999999999a, 0x3fe948ea1026504a, 0x3fe858d80f69dd9a, 0x3fe6cf4ce430f058, 0x3fe4b5f949465d54,
   0x3fe21a1851ff630b, 0x3fde183807222a32, 0x3fd73e8b55d0b19c, 0x3fcfa4b1f1e64210, 0x3fc004d5ec86a92e,
   0x3c9c3d09eb53c672, 0xbfc004d5ec86a927, 0xbfcfa4b1f1e6420a, 0xbfd73e8b55d0b199, 0xbfde183807222a2f,
   0xbfe21a1851ff630a, 0xbfe4b5f949465d53, 0xbfe6cf4ce430f057, 0xbfe858d80f69dd99, 0xbfe948ea10265049,
   0xbfe999999999999a, 0xbfe948ea1026504a, 0xbfe858d80f69dd9a, 0xbfe6cf4ce430f058, 0xbfe4b5f949465d54,
   0xbfe21a1851ff630b, 0xbfde183807222a28, 0xbfd73e8b55d0b19d, 0xbfcfa4b1f1e6421f, 0xbfc004d5ec86a932]

/-- POWER0 of V-D3, 256.00000000000364; the filter's s1 is −102.27925154399475. -/
theorem test_f64_power :
    windowPower numF64 0x3fff9b24942fe45c toneWindow0 = 0x4070000000000040 ∧
    (goertzelState numF64 0x3fff9b24942fe45c toneWindow0).1 = 0xc05991df41de3428 := by decide +kernel

/-- V-D8: forty zeros have power 0 at either tone. -/
theorem test_f64_zeros :
    windowPower numF64 0x3fff9b24942fe45c (List.replicate 40 0) = 0 ∧ f64Gt 0 0x8000000000000000 = false := by decide +kernel

/-- Rounding to even, overflow, and an exact cancellation (IEEE 754). -/
theorem test_f64_rounding :
    f64Add 0x3FF0000000000000 0x3CA0000000000000 = 0x3FF0000000000000 ∧
    f64Add 0x3FF0000000000001 0x3CA0000000000000 = 0x3FF0000000000002 ∧
    f64Add 0x7FEFFFFFFFFFFFFF 0x7FEFFFFFFFFFFFFF = 0x7FF0000000000000 ∧
    f64Sub 0x3FF0000000000000 0x3FF0000000000000 = 0 ∧
    f64Mul 0x0000000000000001 0x3FE0000000000000 = 0 := by decide +kernel

/-! ### Stepping -/

theorem test_step_placed_word :
    step (State.reset.withFetchWord 32 0x32000000) = exec .modEnd State.reset ∧
    step (State.reset.withFetchWord 32 0x05000000) = .next (respond .errIllegal .none State.reset) ∧
    step State.reset = .next State.reset := ⟨rfl, rfl, rfl⟩

end Sys2Proof.Tests
end

