-- ==== Sys2Proof/Tests/Witnesses.lean ====
section
/-! SUPPORT. For every statement that has hypotheses: concrete states and operands that meet them together, one for each
clause and at the ends of its ranges. -/

namespace Sys2Proof.Tests

open Sys2Proof.Machine

/-- The modulator open at the defaults, after its preamble. -/
def modOpen : State := { State.reset with modActive := true, modN := 640 }

/-- The detector open at the defaults, past its preamble. -/
def demOpen : State := { State.reset with demActive := true }

/-- An illegal configuration: V-E10. -/
def illegalState : State := { State.reset with bitRate := 7 }

/-! ### Reset and control -/

theorem witness_ResetTableHolds :
    (∃ t, exec .reset modOpen = .next t) ∧ ∃ t, exec .reset illegalState = .next t := ⟨⟨_, rfl⟩, ⟨_, rfl⟩⟩

theorem witness_ComputedRegistersAfterReset : ∃ t, exec .reset illegalState = .next t := ⟨_, rfl⟩

theorem witness_RegRdAnswersEachRegister : 0x12 ≤ (0x12 : Byte).toNat ∧ 0x12 ≤ (0xFF : Byte).toNat := by decide

theorem witness_RegWrWritesOrRefuses :
    (State.reset.modActive = false ∧ State.reset.demActive = false) ∧
    (modOpen.modActive = true ∧ 1 ≤ (1 : Byte).toNat ∧ (4 : Byte).toNat ≤ 4) ∧ demOpen.demActive = true ∧
    ((0 : Byte).toNat = 0 ∧ (0 : Byte).toNat ≠ 8) ∧ (5 ≤ (5 : Byte).toNat ∧ (5 : Byte).toNat ≠ 8) ∧
    (5 ≤ (9 : Byte).toNat ∧ (9 : Byte).toNat ≠ 8) ∧ (5 ≤ (0xFF : Byte).toNat ∧ (0xFF : Byte).toNat ≠ 8) := by decide

theorem witness_SregRdAnswersEachRegister : 0x08 ≤ (0x08 : Byte).toNat ∧ 0x08 ≤ (0xFF : Byte).toNat := by decide

theorem witness_CfgLegalIsThePredicate :
    cfgLegal illegalState.cfg = false ∧ illegalState.modActive = false ∧ illegalState.demActive = false := by decide

theorem exec_modStart_reset : exec .modStart State.reset =
    .next (respond .ok .none (sendBits Config.num preamble { State.reset with modN := 0, modActive := true })) := by
  simp only [exec, execModStart, runModStart]
  rw [if_neg (by decide), if_neg (by decide +kernel), answer_next]

theorem witness_StatusBitsAndTheirWriters :
    (∃ t, exec .modEnd modOpen = .next t ∧ t.modActive ≠ modOpen.modActive) ∧
    (∃ t, exec .demEnd demOpen = .next t ∧ t.demActive ≠ demOpen.demActive) ∧
    (∃ t, exec .modStart State.reset = .next t ∧ t.modActive ≠ State.reset.modActive) ∧
    (∃ t, exec .demStart State.reset = .next t ∧ t.demActive ≠ State.reset.demActive) :=
  ⟨⟨_, rfl, by decide⟩, ⟨_, rfl, by decide⟩,
   ⟨_, exec_modStart_reset, by rw [respond_modActive, sendBits_state]; decide⟩, ⟨_, rfl, by decide⟩⟩

/-! ### The CRC unit -/

theorem witness_CrcDetectsEverySingleBitError : (0 : Nat) < 8 ∧ (7 : Nat) < 8 := by decide

theorem witness_CrcStateIsIndependentOfThePacketUnit :
    (∃ t, exec (.regWr 0x08 5) State.reset = .next t ∧ t.crcState ≠ State.reset.crcState) ∧
    (∃ t, exec .pktSeal (withBytes [1, 0, 0, 0, 1, 0x00, 0xF6]) = .next t) ∧
    ∃ t, exec (.pktCheck 10) State.reset = .next t := ⟨⟨_, rfl, by decide⟩, ⟨_, rfl⟩, ⟨_, rfl⟩⟩

/-! ### The packet unit -/

theorem witness_BufRdReadsOneByte :
    (withBytes hiFrame).pbuf.find (12 : Byte).toNat = some 0x69 ∧ State.reset.pbuf.find (255 : Byte).toNat = none := by
  decide

/-- A full PBUF whose frame has the largest payload: bytes 5 and 6 hold 245. -/
def fullBytes : List Byte := [1, 0, 0, 0, 1, 0, 245] ++ List.replicate 249 0x5A

theorem witness_PktSealCompletesOnAWrittenFrame :
    (([1, 0, 0, 0, 1, 0, 245] : List Byte).length = 7 ∧
      readBE (([1, 0, 0, 0, 1, 0, 245] : List Byte).drop 5) = (List.replicate 245 (0x5A : Byte)).length ∧
      (List.replicate 245 (0x5A : Byte)).length ≤ 245 ∧
      HoldsBytes (withBytes fullBytes) 0 [1, 0, 0, 0, 1, 0, 245] ∧
      HoldsBytes (withBytes fullBytes) 11 (List.replicate 245 0x5A)) ∧
    (readBE (([2, 1, 2, 3, 4, 0, 0] : List Byte).drop 5) = ([] : List Byte).length ∧
      HoldsBytes (withBytes [2, 1, 2, 3, 4, 0, 0]) 0 [2, 1, 2, 3, 4, 0, 0]) :=
  ⟨⟨rfl, by decide +kernel, by decide +kernel, holdsBytes_of_check (by decide +kernel), holdsBytes_of_check (by decide +kernel)⟩,
   by decide, holdsBytes_of_check (by decide)⟩

theorem witness_PktCheckVerifiesWhatItReads :
    (257 : Word).toNat > 256 ∧ (0xFFFFFFFF : Word).toNat > 256 ∧ (0 : Word).toNat < 11 ∧ (10 : Word).toNat < 11 ∧
    (11 ≤ (11 : Word).toNat ∧ (11 : Word).toNat ≤ 256) ∧ (11 ≤ (256 : Word).toNat ∧ (256 : Word).toNat ≤ 256) := by
  decide

theorem witness_PktCheckCompletesOnAWrittenFrame :
    (HoldsBytes (withBytes hiFrame) 0 hiFrame ∧ 11 ≤ hiFrame.length ∧
      readBE ((hiFrame.drop 5).take 2) = hiFrame.length - 11 ∧ hiFrame.length ≤ (13 : Word).toNat ∧
      (256 : Word).toNat ≤ 256) ∧
    (HoldsBytes (withBytes fullBytes) 0 fullBytes ∧ readBE ((fullBytes.drop 5).take 2) = fullBytes.length - 11 ∧
      fullBytes.length ≤ (256 : Word).toNat) :=
  ⟨⟨holdsBytes_of_check (by decide), by decide, by decide, by decide, by decide⟩,
   holdsBytes_of_check (by decide +kernel), by decide +kernel, by decide +kernel⟩

theorem witness_PktBuildSerializesThePacket :
    (List.replicate 245 (0 : Byte)).length ≤ 245 ∧ ([] : List Byte).length ≤ 245 := by decide +kernel

theorem witness_BuiltPacketIsAccepted :
    (List.replicate 245 (0 : Byte)).length ≤ 245 ∧ ([0x48, 0x69] : List Byte).length ≤ 245 := by decide +kernel

/-- A covered byte, the length field, the checksum field and a trailing byte of an accepted frame. -/
theorem witness_SingleBitCorruptionVerdicts :
    11 ≤ (hiFrame ++ [0]).length ∧ (hiFrame ++ [0]).length ≤ 256 ∧ (14 : Word).toNat = (hiFrame ++ [0]).length ∧
    HoldsBytes (withBytes (hiFrame ++ [0])) 0 (hiFrame ++ [0]) ∧
    (∃ t c, exec (.pktCheck 14) (withBytes (hiFrame ++ [0])) = .next t ∧ lastResponse t = some ⟨.ok, c⟩) ∧
    (hiFrame ++ [0])[0]? = some 1 ∧ (hiFrame ++ [0])[5]? = some 0 ∧ (hiFrame ++ [0])[6]? = some 2 ∧
    (hiFrame ++ [0])[10]? = some 0xC2 ∧ (hiFrame ++ [0])[12]? = some 0x69 ∧ (hiFrame ++ [0])[13]? = some 0 ∧
    (11 + readBE (((hiFrame ++ [0]).drop 5).take 2) = 13) ∧ (7 : Nat) < 8 := by
  refine ⟨by decide, by decide, by decide, holdsBytes_of_check (by decide), ?_, by decide, by decide, by decide, by decide,
    by decide, by decide, by decide, by decide⟩
  refine ⟨after (exec (.pktCheck 14) (withBytes (hiFrame ++ [0]))), .u32 0xC358E1C2, ?_, by decide +kernel⟩
  simp only [exec, execPktCheck, runPktCheck, verifyFrame, answer_next, raise_next, after]
  split_ifs <;> rfl

theorem witness_WrittenBytesStayWritten :
    (∃ t, exec (.bufWr 255 9) (withBytes hiFrame) = .next t ∧ ((withBytes hiFrame).pbuf.find 12).isSome = true ∧
      t.pbuf.find 255 ≠ (withBytes hiFrame).pbuf.find 255) := ⟨_, rfl, by decide, by decide⟩

/-! ### The modulator -/

theorem witness_ModStartSendsThePreamble :
    modOpen.modActive = true ∧ (illegalState.modActive = false ∧ cfgLegal illegalState.cfg = false) ∧
    (State.reset.modActive = false ∧ cfgLegal State.reset.cfg = true) := by decide

theorem witness_ModByteSendsTheByte :
    State.reset.modActive = false ∧
    ({ modOpen with modN := 4294966976 }.modActive = true ∧
      { modOpen with modN := 4294966976 }.modN.toNat + 8 * spb { modOpen with modN := 4294966976 }.cfg > 2 ^ 32 - 1) ∧
    ({ modOpen with modN := 4294966975 }.modActive = true ∧
      { modOpen with modN := 4294966975 }.modN.toNat + 8 * spb { modOpen with modN := 4294966975 }.cfg ≤ 2 ^ 32 - 1) := by
  decide +kernel

theorem witness_ModEndClosesTheFrame : State.reset.modActive = false ∧ modOpen.modActive = true := by decide

theorem witness_ModulateStreamEmitsModulate :
    State.reset.modActive = false ∧ cfgLegal State.reset.cfg = true ∧
    (16 + 8 * ([0xA5] : List Byte).length) * spb State.reset.cfg ≤ 2 ^ 32 - 1 := by decide +kernel

theorem witness_RealSamplesStayInRange : ∃ x, x ∈ modulate numReal ⟨48000, 1200, 1200, 2400⟩ [] := by
  refine List.exists_mem_of_length_pos ?_
  rw [modulate, List.length_map, List.length_range]
  decide +kernel

theorem witness_WholeCycleWindowsRepeat :
    cfgLegal ⟨48000, 1200, 1200, 2400⟩ = true ∧
    ((Cfg.freq ⟨48000, 1200, 1200, 2400⟩ false).toNat * spb ⟨48000, 1200, 1200, 2400⟩) % (48000 : Word).toNat = 0 ∧
    ((Cfg.freq ⟨48000, 1200, 1200, 2400⟩ true).toNat * spb ⟨48000, 1200, 1200, 2400⟩) % (48000 : Word).toNat = 0 := by
  decide +kernel

/-! ### The detector -/

theorem witness_DemStartOpensTheFrame :
    demOpen.demActive = true ∧ (illegalState.demActive = false ∧ cfgLegal illegalState.cfg = false) ∧
    (State.reset.demActive = false ∧ cfgLegal State.reset.cfg = true) := by decide

theorem witness_DemSampleTakesOneSample :
    State.reset.demActive = false ∧
    ({ demOpen with demSkip := 1 }.demActive = true ∧ { demOpen with demSkip := 1 }.demSkip ≠ 0) ∧
    (demOpen.demActive = true ∧ demOpen.demSkip = 0 ∧ demOpen.demWcnt.toNat < 2 ^ 32 - 1) ∧
    ({ demOpen with demWcnt := 39 }.demWcnt.toNat + 1 = spb { demOpen with demWcnt := 39 }.cfg) ∧
    ({ demOpen with demWcnt := 4294967294 }.demWcnt.toNat < 2 ^ 32 - 1) := by decide +kernel

theorem witness_DemEndClosesTheFrame : State.reset.demActive = false ∧ demOpen.demActive = true := by decide

/-- The detector open at SPB = 1, where every sample completes a window, with a given POWER0. -/
def tinyDem (x : Sample) : State := { State.reset with sampleRate := 1, bitRate := 1, demActive := true, power0 := x }

theorem exec_demSample_tinyDem (x y : Sample) : exec (.demSample y) (tinyDem x) =
    .next (respond .ok .none (closeWindow Config.num (feedFilters Config.num y (tinyDem x)))) := by
  simp only [exec, execDemSample, runDemSample]
  rw [if_neg (show ¬ (tinyDem x).demActive = false from Bool.noConfusion),
    if_neg (show ¬ (tinyDem x).demSkip.toNat > 0 from Nat.lt_irrefl 0)]
  show (if (1 : Word).toNat = spb ⟨1, 1, 1200, 2400⟩ then _ else _) = _
  rw [if_pos (by decide +kernel), answer_next]

/-- RESET, and a window that completes, from states whose POWER0 is not the value it gets. -/
theorem witness_PowersChangeOnlyAtAWindowsEnd :
    (∃ s t, s.demWcnt.toNat < 2 ^ 32 - 1 ∧ exec .reset s = .next t ∧ t.power0 ≠ s.power0) ∧
    (∃ s t x, s.demWcnt.toNat < 2 ^ 32 - 1 ∧ exec (.demSample x) s = .next t ∧ t.power0 ≠ s.power0) ∧
    ((tinyDem ⟨0⟩).demActive = true ∧ (tinyDem ⟨0⟩).demSkip = 0 ∧
      (tinyDem ⟨0⟩).demWcnt.toNat + 1 = spb (tinyDem ⟨0⟩).cfg) := by
  refine ⟨?_, ?_, rfl, rfl, by decide +kernel⟩
  · refine ⟨{ State.reset with power0 := ⟨Config.num.zero.code + 1⟩ }, _, (by decide : (0 : Word).toNat < 2 ^ 32 - 1), rfl, fun h => ?_⟩
    have := congrArg Sample.code h
    change Config.num.zero.code = Config.num.zero.code + 1 at this
    omega
  · refine ⟨tinyDem ⟨(closeWindow Config.num (feedFilters Config.num ⟨7⟩ (tinyDem ⟨0⟩))).power0.code + 1⟩, _, ⟨7⟩,
      (by decide : (0 : Word).toNat < 2 ^ 32 - 1), exec_demSample_tinyDem _ _, fun h => ?_⟩
    have h := congrArg Sample.code h
    rw [respond_power0, closeWindow_power0] at h
    change (closeWindow Config.num (feedFilters Config.num ⟨7⟩ (tinyDem ⟨0⟩))).power0.code = _ + 1 at h
    omega

theorem witness_DemodulateStreamEmitsDemodulate :
    State.reset.demActive = false ∧ cfgLegal State.reset.cfg = true := by decide

theorem witness_GoertzelIsTheDftBinPower :
    cfgLegal ⟨48000, 1200, 1200, 2400⟩ = true ∧
    (List.replicate 40 (0 : ℝ)).length = spb ⟨48000, 1200, 1200, 2400⟩ := by
  rw [List.length_replicate]
  decide +kernel

theorem witness_CoincidingBinsDecodeToZeros :
    cfgLegal ⟨48000, 1200, 1200, 1300⟩ = true ∧
    binIndex ⟨48000, 1200, 1200, 1300⟩ false = binIndex ⟨48000, 1200, 1200, 1300⟩ true := by decide +kernel

theorem witness_BinIndexFitsItsRegister : cfgLegal State.reset.cfg = true := by decide

/-! ### The binary64 instance -/

theorem witness_NonFiniteSampleDecidesZero :
    (0x7FF0000000000000 : F64) ∈ [(0 : F64), 0x7FF0000000000000] ∧ f64IsFinite 0x7FF0000000000000 = false ∧
    f64IsFinite 0x7FF8000000000000 = false := by decide

theorem witness_F64GtIsTheOrderedComparison :
    f64IsNaN 0x7FF8000000000000 = true ∧ f64IsFinite 0x7FEFFFFFFFFFFFFF = true ∧ f64IsFinite 0 = true ∧
    (f64IsInf 0x7FF0000000000000 = true ∧ f64Sign 0x7FF0000000000000 = false) ∧
    (f64IsInf 0xFFF0000000000000 = true ∧ f64Sign 0xFFF0000000000000 = true) ∧
    (f64IsNaN 0x7FEFFFFFFFFFFFFF = false ∧ (0x7FEFFFFFFFFFFFFF : F64) ≠ 0x7FF0000000000000) ∧
    (f64IsNaN 0x7FF0000000000000 = false ∧ (0x7FF0000000000000 : F64) ≠ 0xFFF0000000000000) := by decide

theorem witness_F64RoundsToNearest :
    f64IsFinite 0x3FF0000000000000 = true ∧ f64IsFinite (numF64.add 0x3FF0000000000000 0x3FF0000000000000) = true ∧
    f64IsFinite (numF64.sub 0x3FF0000000000001 0x3CA0000000000000) = true ∧
    f64IsFinite (numF64.mul 0x3FF0000000000000 0x0000000000000001) = true := by decide +kernel

/-! ### Every command -/

theorem witness_ErrorsArePrecise :
    (∃ t, exec .demEnd State.reset = .next t ∧ t.responses = State.reset.responses ++ [⟨.errState, .none⟩]) ∧
    (∃ t, exec (.pktCheck 10) State.reset = .next t ∧ t.responses = State.reset.responses ++ [⟨.framingError, .none⟩]) ∧
    (∃ t, exec (.crcCheck 1) State.reset = .next t ∧
      t.responses = State.reset.responses ++ [⟨.integrityError, .u32 0⟩]) :=
  ⟨⟨_, rfl, rfl⟩, ⟨_, rfl, rfl⟩, ⟨_, rfl, rfl⟩⟩

theorem witness_ReadsHaveNoSideEffects :
    (∃ t, exec (.regRd 0x05) State.reset = .next t) ∧ (∃ t, exec (.sregRd 0x06) State.reset = .next t) ∧
    (∃ t, exec (.bufRd 7) (withBytes hiFrame) = .next t ∧
      ((withBytes hiFrame).pbuf.find (7 : Byte).toNat).isSome = true) ∧
    (∃ t, exec (.bufWr 7 1) State.reset = .next t) ∧ ∃ t, exec (.regWr 0x08 1) State.reset = .next t :=
  ⟨⟨_, rfl⟩, ⟨_, rfl⟩, ⟨_, rfl, by decide⟩, ⟨_, rfl⟩, ⟨_, rfl⟩⟩

theorem witness_ConfigurationIsFrozenWhileAStreamIsOpen :
    streamOpen demOpen = true ∧ (∃ t, exec (.regWr 0x04 1) demOpen = .next t) ∧
    1 ≤ (1 : Byte).toNat ∧ (4 : Byte).toNat ≤ 4 := ⟨by decide, ⟨_, rfl⟩, by decide, by decide⟩

theorem witness_LogsAreAppendOnlyAndNeverRead :
    (∃ t, exec .modStart State.reset = .next t) ∧ ∃ t, exec (.demSample ⟨1⟩) { demOpen with demSkip := 1 } = .next t :=
  ⟨⟨_, rfl⟩, ⟨_, rfl⟩⟩

theorem witness_UnitsLeaveEachOtherAlone :
    (∃ t, exec .crcInit demOpen = .next t) ∧ (∃ t, exec (.bufWr 7 1) demOpen = .next t) ∧
    (∃ t, exec .modEnd modOpen = .next t) ∧ ∃ t, exec .demEnd demOpen = .next t :=
  ⟨⟨_, rfl⟩, ⟨_, rfl⟩, ⟨_, rfl⟩, ⟨_, rfl⟩⟩

/-! ### Encoding, stepping and runs -/

theorem witness_IllFormedTransactionsAnswerIllegal :
    (⟨0x00000001, .none⟩ : Transaction).wellFormed = false ∧ (⟨0x310000FF, .none⟩ : Transaction).wellFormed = true := by
  decide

theorem witness_DecodeChecksInOrder :
    (⟨0x05FFFFFF, .none⟩ : Transaction).opcodeDefined = false ∧
    ((⟨0x00010001, .none⟩ : Transaction).opcodeDefined = true ∧ (⟨0x00010001, .none⟩ : Transaction).reservedClear = false) ∧
    ((⟨0x02000100, .none⟩ : Transaction).opcodeDefined = true ∧ (⟨0x02000100, .none⟩ : Transaction).reservedClear = true ∧
      (⟨0x02000100, .none⟩ : Transaction).unusedAClear = false) ∧
    ((⟨0x21000001, .none⟩ : Transaction).opcodeDefined = true ∧ (⟨0x21000001, .none⟩ : Transaction).reservedClear = true ∧
      (⟨0x21000001, .none⟩ : Transaction).unusedAClear = true ∧ (⟨0x21000001, .none⟩ : Transaction).unusedBClear = false) ∧
    ((⟨0x10000000, .u32 0⟩ : Transaction).opcodeDefined = true ∧
      (⟨0x10000000, .u32 0⟩ : Transaction).reservedClear = true ∧
      (⟨0x10000000, .u32 0⟩ : Transaction).unusedAClear = true ∧
      (⟨0x10000000, .u32 0⟩ : Transaction).unusedBClear = true ∧
      (⟨0x10000000, .u32 0⟩ : Transaction).laneFits = false) := by decide

theorem witness_StepExecutesTheNextTransaction :
    State.reset.port = [] ∧ (present [⟨0x10000000, .none⟩] State.reset).port = ⟨0x10000000, .none⟩ :: [] ∧
    decode ⟨0x10000000, .none⟩ = .ok .crcInit ∧ decode ⟨0x05000000, .none⟩ = .error .undefinedOpcode :=
  ⟨rfl, rfl, rfl, rfl⟩

theorem witness_OversizedOperandsAreAssemblyErrors :
    (255 < 256 ∧ (AsmOperand.hex 256 = .num 256 ∨ AsmOperand.hex 256 = .hex 256)) ∧
    ((255 : Nat) ≤ 255 ∧ (AsmOperand.num 255 = .num 255 ∨ AsmOperand.num 255 = .hex 255)) ∧
    (2 ^ 32 ≤ 4294967296 ∧ (AsmOperand.num 4294967296 = .num 4294967296 ∨ AsmOperand.num 4294967296 = .hex 4294967296)) := by
  decide

theorem witness_PlacedWordIsRunNext : decodeTableWord 32 0x42000000 = some .demEnd := rfl

theorem witness_RunIsTheCommandsInOrder : State.reset.port = [] := rfl

/-- A state with both streams open and a command waiting meets the invariant and steps. -/
theorem witness_StepKeepsTheInvariant :
    ∃ s t, State.Inv s ∧ step s = .next t ∧ s.modActive = true ∧ s.demActive = true ∧ s.demBcnt = 7 := by
  refine ⟨{ modOpen with
    demActive := true, demBsr := 0x52, demBcnt := 7, pktLen := 245, pbuf := [(3, 1)], port := [⟨0, .none⟩] }, _, ?_, rfl,
    rfl, rfl, rfl⟩
  refine ⟨⟨by simp, by decide⟩, fun _ => ⟨by decide, 0, by decide⟩, fun _ => ⟨by decide, by decide +kernel, by decide, ?_, by decide, ?_⟩,
    fun h => absurd h (by decide), by decide⟩
  · intro h
    exact absurd rfl h
  · exact fun _ => ⟨rfl, rfl, rfl, rfl⟩

end Sys2Proof.Tests
end

section
/-! PROOFS. What each command of a unit answers, case by case, and from it what one command can do to the two streams
(R24, R43); then the statements about STATUS, the powers and the configuration's legality. -/

namespace Sys2Proof.Machine

section Equations

variable {α : Type} (N : Numerics α) {s : State α}

/-! ### The modulator's commands, an equation per case (R175 to R177) -/

theorem runModStart_open (h : s.modActive = true) : runModStart N s = .next (respond .errState .none s) := by
  simp [runModStart, h]

theorem runModStart_illegal (h : s.modActive = false) (hc : cfgLegal s.cfg = false) :
    runModStart N s = .next (respond .errConfig .none s) := by
  simp [runModStart, h, hc]

theorem runModStart_legal (h : s.modActive = false) (hc : cfgLegal s.cfg = true) :
    runModStart N s =
      .next (respond .ok .none (sendBits N preamble { s with modN := 0, modActive := true })) := by
  simp [runModStart, h, hc]

theorem runModByte_closed (b : Byte) (h : s.modActive = false) :
    runModByte N b s = .next (respond .errState .none s) := by
  simp [runModByte, h]

theorem runModByte_overflow (b : Byte) (h : s.modActive = true)
    (hn : 4294967295 < s.modN.toNat + 8 * spb s.cfg) :
    runModByte N b s = .next (respond .errOverflow .none s) := by
  simp [runModByte, h, hn]

theorem runModByte_sends (b : Byte) (h : s.modActive = true)
    (hn : s.modN.toNat + 8 * spb s.cfg ≤ 4294967295) :
    runModByte N b s = .next (respond .ok .none (sendBits N (bitsMSB b) s)) := by
  simp [runModByte, h, Nat.not_lt.2 hn]

theorem runModEnd_closed (h : s.modActive = false) : runModEnd s = .next (respond .errState .none s) := by
  simp [runModEnd, h]

theorem runModEnd_open (h : s.modActive = true) :
    runModEnd s = .next (respond .ok .none { s with modActive := false }) := by
  simp [runModEnd, h]

/-! ### The detector's commands, an equation per case (R197 to R199) -/

theorem runDemStart_open (h : s.demActive = true) : runDemStart N s = .next (respond .errState .none s) := by
  simp [runDemStart, h]

theorem runDemStart_illegal (h : s.demActive = false) (hc : cfgLegal s.cfg = false) :
    runDemStart N s = .next (respond .errConfig .none s) := by
  simp [runDemStart, h, hc]

theorem runDemStart_legal (h : s.demActive = false) (hc : cfgLegal s.cfg = true) :
    runDemStart N s = .next (respond .ok .none { clearFilters N s with
      demSkip := BitVec.ofNat 32 (preambleSamples s.cfg), demWcnt := 0, demBsr := 0, demBcnt := 0,
      demActive := true }) := by
  simp [runDemStart, h, hc]

theorem runDemSample_closed (x : α) (h : s.demActive = false) :
    runDemSample N x s = .next (respond .errState .none s) := by
  simp [runDemSample, h]

theorem runDemSample_skips (x : α) (h : s.demActive = true) (hk : s.demSkip ≠ 0) :
    runDemSample N x s = .next (respond .ok .none { s with demSkip := s.demSkip - 1 }) := by
  have hpos : 0 < s.demSkip.toNat := Nat.pos_of_ne_zero fun h0 => hk (BitVec.eq_of_toNat_eq h0)
  simp [runDemSample, h, hpos]

/-- Past the preamble the sample goes into the filters, and the count decides whether the window is complete. -/
theorem runDemSample_past_preamble (x : α) (h : s.demActive = true) (hk : s.demSkip = 0) :
    runDemSample N x s = if (s.demWcnt + 1).toNat = spb s.cfg
      then .next (respond .ok .none (closeWindow N (feedFilters N x s)))
      else .next (respond .ok .none (feedFilters N x s)) := by
  have hpos : ¬ s.demSkip.toNat > 0 := by simp [hk]
  rw [runDemSample, if_neg (by simp [h]), if_neg hpos]
  rfl

theorem runDemSample_feeds (x : α) (h : s.demActive = true) (hk : s.demSkip = 0)
    (hw : (s.demWcnt + 1).toNat ≠ spb s.cfg) :
    runDemSample N x s = .next (respond .ok .none (feedFilters N x s)) := by
  rw [runDemSample_past_preamble N x h hk, if_neg hw]

theorem runDemSample_completes (x : α) (h : s.demActive = true) (hk : s.demSkip = 0)
    (hw : (s.demWcnt + 1).toNat = spb s.cfg) :
    runDemSample N x s = .next (respond .ok .none (closeWindow N (feedFilters N x s))) := by
  rw [runDemSample_past_preamble N x h hk, if_pos hw]

theorem runDemEnd_closed (h : s.demActive = false) : runDemEnd N s = .next (respond .errState .none s) := by
  simp [runDemEnd, h]

theorem runDemEnd_open (h : s.demActive = true) :
    runDemEnd N s = .next (respond .ok .none { clearFilters N s with
      demSkip := 0, demWcnt := 0, demBsr := 0, demBcnt := 0, demActive := false }) := by
  simp [runDemEnd, h]

/-! ### The control and CRC commands: what they can write -/

/-- REG_RD answers from the state and writes nothing (R102). -/
theorem runRegRd_responds (r : Byte) (s : State α) : ∃ c d, runRegRd r s = .next (respond c d s) := by
  unfold runRegRd
  split
  · exact ⟨_, _, rfl⟩
  · exact ⟨_, _, rfl⟩

/-- REG_WR fails and writes nothing, or writes one register (R103). -/
theorem runRegWr_responds_or_writes (r : Byte) (v : Word) (s : State α) :
    (∃ c, runRegWr r v s = .next (respond c .none s)) ∨
      ∃ reg, runRegWr r v s = .next (respond .ok .none (writeReg reg v s)) := by
  unfold runRegWr
  split
  · exact .inl ⟨_, rfl⟩
  · next reg _ =>
    split
    · exact .inl ⟨_, rfl⟩
    · split
      · exact .inl ⟨_, rfl⟩
      · exact .inr ⟨reg, rfl⟩
    · exact .inr ⟨reg, rfl⟩

/-- SREG_RD answers from the state and writes nothing (R104). -/
theorem runSregRd_responds (r : Byte) (s : State α) : ∃ c d, runSregRd N r s = .next (respond c d s) := by
  unfold runSregRd
  split
  · exact ⟨_, _, rfl⟩
  · exact ⟨_, _, rfl⟩

/-- CRC_CHECK answers a verdict and writes nothing (R126). -/
theorem runCrcCheck_responds (e : Word) (s : State α) : ∃ c d, runCrcCheck e s = .next (respond c d s) := by
  unfold runCrcCheck
  split
  · exact ⟨_, _, rfl⟩
  · exact ⟨_, _, rfl⟩

end Equations

/-! ### The packet commands: what they can write -/

section Packet

variable {α : Type}

/-- `t` is `s` but for PBUF, the count of draws, PKT_LEN and PKT_CALC, and the responses. -/
def PacketWrites (s t : State α) : Prop :=
  ∃ m n l c r, t = { s with pbuf := m, draws := n, pktLen := l, pktCalc := c, responses := r }

theorem PacketWrites.trans {s t u : State α} (h : PacketWrites s t) (h' : PacketWrites t u) : PacketWrites s u := by
  obtain ⟨m, n, l, c, r, rfl⟩ := h
  obtain ⟨m', n', l', c', r', rfl⟩ := h'
  exact ⟨m', n', l', c', r', rfl⟩

theorem packetWrites_respond (c : RespCode) (d : DataLane α) (s : State α) : PacketWrites s (respond c d s) :=
  ⟨_, _, _, _, _, rfl⟩

theorem packetWrites_memRead (a : Byte) (s : State α) : PacketWrites s (memRead a s).2 :=
  ⟨_, _, _, _, _, memRead_state a s⟩

theorem packetWrites_memReads (as : List Byte) (s : State α) : PacketWrites s (memReads as s).2 :=
  ⟨_, _, _, _, _, memReads_state as s⟩

theorem packetWrites_memWrites (a : Byte) (vs : List Byte) (s : State α) : PacketWrites s (memWrites a vs s) :=
  ⟨_, _, _, _, _, memWrites_state a vs s⟩

theorem packetWrites_recordPacket (len : Nat) (c : Word) (s : State α) : PacketWrites s (recordPacket len c s) :=
  ⟨_, _, _, _, _, rfl⟩

theorem sealFrame_packetWrites (l : List Byte) (s : State α) :
    ∃ t, sealFrame l s = .next t ∧ PacketWrites s t :=
  ⟨_, rfl, (packetWrites_memReads _ s).trans <| (packetWrites_memReads _ _).trans <|
    (packetWrites_memWrites _ _ _).trans <| (packetWrites_recordPacket _ _ _).trans (packetWrites_respond _ _ _)⟩

/-- PKT_SEAL writes PBUF and the packet registers only (R145). -/
theorem runPktSeal_packetWrites (s : State α) : ∃ t, runPktSeal s = .next t ∧ PacketWrites s t := by
  have hread := packetWrites_memReads lengthAddrs s
  simp only [runPktSeal]
  split
  · exact ⟨_, rfl, hread.trans (packetWrites_respond _ _ _)⟩
  · obtain ⟨t, ht, hw⟩ := sealFrame_packetWrites (memReads lengthAddrs s).1 (memReads lengthAddrs s).2
    exact ⟨t, ht, hread.trans hw⟩

theorem verifyFrame_packetWrites (len : Nat) (s : State α) :
    ∃ t, verifyFrame len s = .next t ∧ PacketWrites s t := by
  have hwrites (k : Word) (c : RespCode) (d : DataLane α) := (packetWrites_memReads
    ([0, 1, 2, 3, 4, 5, 6] ++ payloadAddrs len) s).trans <| (packetWrites_memReads checksumAddrs _).trans <|
      (packetWrites_recordPacket len k _).trans (packetWrites_respond c d _)
  simp only [verifyFrame]
  split
  · exact ⟨_, rfl, hwrites _ _ _⟩
  · exact ⟨_, rfl, hwrites _ _ _⟩

/-- PKT_CHECK writes the packet registers only, but for the draws (R146). -/
theorem runPktCheck_packetWrites (m : Word) (s : State α) : ∃ t, runPktCheck m s = .next t ∧ PacketWrites s t := by
  have hread := packetWrites_memReads lengthAddrs s
  simp only [runPktCheck]
  split
  · exact ⟨_, rfl, packetWrites_respond _ _ s⟩
  · split
    · exact ⟨_, rfl, packetWrites_respond _ _ s⟩
    · split
      · exact ⟨_, rfl, hread.trans (packetWrites_respond _ _ _)⟩
      · obtain ⟨t, ht, hw⟩ :=
          verifyFrame_packetWrites (readBE (memReads lengthAddrs s).1) (memReads lengthAddrs s).2
        exact ⟨t, ht, hread.trans hw⟩

end Packet

/-! ### What a command can do to the two streams -/

section Streams

variable {i : Instr} {s t : State}

/-- The modulator's and the detector's parts of the state are the same. -/
def SameStreams (s t : State) : Prop := SameModulator s t ∧ SameDetector s t

theorem sameStreams_respond (c : RespCode) (d : DataLane) (s : State) : SameStreams s (respond c d s) := by
  obtain ⟨-, -, hmod, hdem, -⟩ := sameBlock_respond c d s
  exact ⟨hmod, hdem⟩

theorem sameStreams_writeReg (c : RespCode) (d : DataLane) (reg : IntReg) (v : Word) (s : State) :
    SameStreams s (respond c d (writeReg reg v s)) := by
  simp [SameStreams, SameModulator, SameDetector]

theorem PacketWrites.sameStreams (h : PacketWrites s t) : SameStreams s t := by
  obtain ⟨m, n, l, c, r, rfl⟩ := h
  simp [SameStreams, SameModulator, SameDetector]

/-- What the command `i` can do to the streams, from `s` to `t`: nothing, or one of the completions of RESET and of the
two units' commands, with its condition and the exact next state (R101, R175 to R177, R197 to R199). -/
inductive StreamStep : Instr → State → State → Prop where
  | keeps {i : Instr} {s t : State} (h : SameStreams s t) : StreamStep i s t
  | reset {s : State} : StreamStep .reset s (respond .ok .none (resetRegisters Config.num s))
  | modStart {s : State} (hact : s.modActive = false) (hcfg : cfgLegal s.cfg = true) : StreamStep .modStart s
      (respond .ok .none (sendBits Config.num preamble { s with modN := 0, modActive := true }))
  | modByte {s : State} (b : Byte) (hact : s.modActive = true) (hn : s.modN.toNat + 8 * spb s.cfg ≤ 4294967295) :
      StreamStep (.modByte b) s (respond .ok .none (sendBits Config.num (bitsMSB b) s))
  | modEnd {s : State} (hact : s.modActive = true) :
      StreamStep .modEnd s (respond .ok .none { s with modActive := false })
  | demStart {s : State} (hact : s.demActive = false) (hcfg : cfgLegal s.cfg = true) :
      StreamStep .demStart s (respond .ok .none { clearFilters Config.num s with
        demSkip := BitVec.ofNat 32 (preambleSamples s.cfg), demWcnt := 0, demBsr := 0, demBcnt := 0,
        demActive := true })
  | demSkips {s : State} (x : Sample) (hact : s.demActive = true) (hskip : s.demSkip ≠ 0) :
      StreamStep (.demSample x) s (respond .ok .none { s with demSkip := s.demSkip - 1 })
  | demFeeds {s : State} (x : Sample) (hact : s.demActive = true) (hskip : s.demSkip = 0)
      (hwcnt : (s.demWcnt + 1).toNat ≠ spb s.cfg) :
      StreamStep (.demSample x) s (respond .ok .none (feedFilters Config.num x s))
  | demCompletes {s : State} (x : Sample) (hact : s.demActive = true) (hskip : s.demSkip = 0)
      (hwcnt : (s.demWcnt + 1).toNat = spb s.cfg) :
      StreamStep (.demSample x) s (respond .ok .none (closeWindow Config.num (feedFilters Config.num x s)))
  | demEnd {s : State} (hact : s.demActive = true) :
      StreamStep .demEnd s (respond .ok .none { clearFilters Config.num s with
        demSkip := 0, demWcnt := 0, demBsr := 0, demBcnt := 0, demActive := false })

theorem streamStep_respond (i : Instr) (c : RespCode) (d : DataLane) (s : State) : StreamStep i s (respond c d s) :=
  .keeps (sameStreams_respond c d s)

theorem exec_modStart_streamStep (s : State) : ∃ t, exec .modStart s = .next t ∧ StreamStep .modStart s t := by
  cases hact : s.modActive with
  | true => exact ⟨_, runModStart_open _ hact, streamStep_respond _ _ _ _⟩
  | false =>
    cases hcfg : cfgLegal s.cfg with
    | false => exact ⟨_, runModStart_illegal _ hact hcfg, streamStep_respond _ _ _ _⟩
    | true => exact ⟨_, runModStart_legal _ hact hcfg, .modStart hact hcfg⟩

theorem exec_modByte_streamStep (b : Byte) (s : State) :
    ∃ t, exec (.modByte b) s = .next t ∧ StreamStep (.modByte b) s t := by
  cases hact : s.modActive with
  | false => exact ⟨_, runModByte_closed _ b hact, streamStep_respond _ _ _ _⟩
  | true =>
    by_cases hn : s.modN.toNat + 8 * spb s.cfg ≤ 4294967295
    · exact ⟨_, runModByte_sends _ b hact hn, .modByte b hact hn⟩
    · exact ⟨_, runModByte_overflow _ b hact (Nat.lt_of_not_le hn), streamStep_respond _ _ _ _⟩

theorem exec_modEnd_streamStep (s : State) : ∃ t, exec .modEnd s = .next t ∧ StreamStep .modEnd s t := by
  cases hact : s.modActive with
  | false => exact ⟨_, runModEnd_closed hact, streamStep_respond _ _ _ _⟩
  | true => exact ⟨_, runModEnd_open hact, .modEnd hact⟩

theorem exec_demStart_streamStep (s : State) : ∃ t, exec .demStart s = .next t ∧ StreamStep .demStart s t := by
  cases hact : s.demActive with
  | true => exact ⟨_, runDemStart_open _ hact, streamStep_respond _ _ _ _⟩
  | false =>
    cases hcfg : cfgLegal s.cfg with
    | false => exact ⟨_, runDemStart_illegal _ hact hcfg, streamStep_respond _ _ _ _⟩
    | true => exact ⟨_, runDemStart_legal _ hact hcfg, .demStart hact hcfg⟩

theorem exec_demSample_streamStep (x : Sample) (s : State) :
    ∃ t, exec (.demSample x) s = .next t ∧ StreamStep (.demSample x) s t := by
  cases hact : s.demActive with
  | false => exact ⟨_, runDemSample_closed _ x hact, streamStep_respond _ _ _ _⟩
  | true =>
    by_cases hskip : s.demSkip = 0
    · by_cases hwcnt : (s.demWcnt + 1).toNat = spb s.cfg
      · exact ⟨_, runDemSample_completes _ x hact hskip hwcnt, .demCompletes x hact hskip hwcnt⟩
      · exact ⟨_, runDemSample_feeds _ x hact hskip hwcnt, .demFeeds x hact hskip hwcnt⟩
    · exact ⟨_, runDemSample_skips _ x hact hskip, .demSkips x hact hskip⟩

theorem exec_demEnd_streamStep (s : State) : ∃ t, exec .demEnd s = .next t ∧ StreamStep .demEnd s t := by
  cases hact : s.demActive with
  | false => exact ⟨_, runDemEnd_closed _ hact, streamStep_respond _ _ _ _⟩
  | true => exact ⟨_, runDemEnd_open _ hact, .demEnd hact⟩

/-- A command that answers from the state alone keeps the streams. -/
theorem streamStep_of_responds {o : Host.Outcome State Fault Refusal}
    (h : ∃ c d, o = .next (respond c d s)) : ∃ t, o = .next t ∧ StreamStep i s t := by
  obtain ⟨c, d, rfl⟩ := h
  exact ⟨_, rfl, streamStep_respond i c d s⟩

/-- So does one that writes only what the packet commands write. -/
theorem streamStep_of_packetWrites {o : Host.Outcome State Fault Refusal}
    (h : ∃ t, o = .next t ∧ PacketWrites s t) : ∃ t, o = .next t ∧ StreamStep i s t := by
  obtain ⟨t, ho, hw⟩ := h
  exact ⟨t, ho, .keeps hw.sameStreams⟩

theorem exec_regWr_streamStep (r : Byte) (v : Word) (s : State) :
    ∃ t, exec (.regWr r v) s = .next t ∧ StreamStep (.regWr r v) s t := by
  rcases runRegWr_responds_or_writes r v s with ⟨c, h⟩ | ⟨reg, h⟩
  · exact ⟨_, h, streamStep_respond _ _ _ _⟩
  · exact ⟨_, h, .keeps (sameStreams_writeReg _ _ reg v s)⟩

/-- Every command goes on to a next state and acts on the streams as `StreamStep` says. -/
theorem exec_exists_streamStep (i : Instr) (s : State) : ∃ t, exec i s = .next t ∧ StreamStep i s t := by
  cases i with
  | nop => exact ⟨_, rfl, streamStep_respond _ .ok .none s⟩
  | reset => exact ⟨_, rfl, .reset⟩
  | regRd r => exact streamStep_of_responds (runRegRd_responds r s)
  | regWr r v => exact exec_regWr_streamStep r v s
  | sregRd r => exact streamStep_of_responds (runSregRd_responds Config.num r s)
  | crcInit => exact ⟨_, rfl, .keeps (sameStreams_writeReg .ok .none .crcState _ s)⟩
  | crcByte b => exact ⟨_, rfl, .keeps (sameStreams_writeReg .ok .none .crcState _ s)⟩
  | crcCheck e => exact streamStep_of_responds (runCrcCheck_responds e s)
  | bufWr a b =>
    exact streamStep_of_packetWrites
      ⟨_, rfl, (packetWrites_memWrites a [b] s).trans (packetWrites_respond _ _ _)⟩
  | bufRd a =>
    exact streamStep_of_packetWrites ⟨_, rfl, (packetWrites_memRead a s).trans (packetWrites_respond _ _ _)⟩
  | pktSeal => exact streamStep_of_packetWrites (runPktSeal_packetWrites s)
  | pktCheck m => exact streamStep_of_packetWrites (runPktCheck_packetWrites m s)
  | modStart => exact exec_modStart_streamStep s
  | modByte b => exact exec_modByte_streamStep b s
  | modEnd => exact exec_modEnd_streamStep s
  | demStart => exact exec_demStart_streamStep s
  | demSample x => exact exec_demSample_streamStep x s
  | demEnd => exact exec_demEnd_streamStep s

theorem streamStep_of_exec (h : exec i s = .next t) : StreamStep i s t := by
  obtain ⟨u, hu, hstep⟩ := exec_exists_streamStep i s
  obtain rfl : u = t := by simpa [hu] using h
  exact hstep

/-! ### STATUS (R24) -/

@[simp] theorem sendBits_modActive {α : Type} (N : Numerics α) (vs : List Bool) (s : State α) :
    (sendBits N vs s).modActive = s.modActive := by
  rw [sendBits_state]

@[simp] theorem sendBits_demActive {α : Type} (N : Numerics α) (vs : List Bool) (s : State α) :
    (sendBits N vs s).demActive = s.demActive := by
  rw [sendBits_state]

/-- A bit appended below is bit 0, and the others move up by one. -/
theorem getLsbD_append_ofBool {w : Nat} (x : BitVec w) (b : Bool) (k : Nat) :
    (x ++ BitVec.ofBool b).getLsbD k = if k = 0 then b else x.getLsbD (k - 1) := by
  rw [BitVec.getLsbD_append]
  cases k with
  | zero => simp
  | succ k => simp

theorem statusWord_getLsbD {α : Type} (s : State α) (k : Nat) : (statusWord s).getLsbD k =
    if k = 0 then s.modActive else if k = 1 then s.demActive else if k = 2 then cfgLegal s.cfg else false := by
  calc (statusWord s).getLsbD k
    _ = if k = 0 then s.modActive else if k - 1 = 0 then s.demActive
          else if k - 1 - 1 = 0 then cfgLegal s.cfg else (0 : BitVec 29).getLsbD (k - 1 - 1 - 1) :=
      (getLsbD_append_ofBool _ _ _).trans (by rw [getLsbD_append_ofBool, getLsbD_append_ofBool])
    _ = _ := by
      rcases k with _ | _ | _ | k <;> simp

theorem statusWord_bits (s : State) :
    (statusWord s).getLsbD 0 = s.modActive ∧ (statusWord s).getLsbD 1 = s.demActive ∧
      (statusWord s).getLsbD 2 = cfgLegal s.cfg ∧ ∀ k, 3 ≤ k → (statusWord s).getLsbD k = false := by
  refine ⟨statusWord_getLsbD s 0, statusWord_getLsbD s 1, statusWord_getLsbD s 2, fun k hk => ?_⟩
  rw [statusWord_getLsbD, if_neg (by omega), if_neg (by omega), if_neg (by omega)]

theorem StreamStep.modActive_writer (h : StreamStep i s t) (hne : t.modActive ≠ s.modActive) :
    (i = .modStart ∧ t.modActive = true) ∨ (i = .modEnd ∧ t.modActive = false) ∨
      (i = .reset ∧ t.modActive = false) := by
  cases h with
  | keeps h =>
    obtain ⟨⟨hmod, -⟩, -⟩ := h
    exact absurd hmod hne
  | modStart => exact .inl ⟨rfl, by simp⟩
  | modEnd => exact .inr (.inl ⟨rfl, rfl⟩)
  | reset => exact .inr (.inr ⟨rfl, rfl⟩)
  | modByte | demStart | demSkips | demFeeds | demCompletes | demEnd => exact absurd (by simp) hne

theorem StreamStep.demActive_writer (h : StreamStep i s t) (hne : t.demActive ≠ s.demActive) :
    (i = .demStart ∧ t.demActive = true) ∨ (i = .demEnd ∧ t.demActive = false) ∨
      (i = .reset ∧ t.demActive = false) := by
  cases h with
  | keeps h =>
    obtain ⟨-, hdem, -⟩ := h
    exact absurd hdem hne
  | demStart => exact .inl ⟨rfl, rfl⟩
  | demEnd => exact .inr (.inl ⟨rfl, rfl⟩)
  | reset => exact .inr (.inr ⟨rfl, rfl⟩)
  | modStart | modByte | modEnd | demSkips | demFeeds | demCompletes => exact absurd (by simp) hne

/-! ### The powers (R43) -/

@[simp] theorem sendBits_power0 {α : Type} (N : Numerics α) (vs : List Bool) (s : State α) :
    (sendBits N vs s).power0 = s.power0 := by
  rw [sendBits_state]

@[simp] theorem sendBits_power1 {α : Type} (N : Numerics α) (vs : List Bool) (s : State α) :
    (sendBits N vs s).power1 = s.power1 := by
  rw [sendBits_state]

theorem toNat_succ_of_lt {w : Word} (h : w.toNat < 2 ^ 32 - 1) : (w + 1).toNat = w.toNat + 1 :=
  BitVec.toNat_add_of_lt (show w.toNat + 1 < 2 ^ 32 by omega)

theorem StreamStep.power_writer (h : StreamStep i s t) (hne : t.power0 ≠ s.power0 ∨ t.power1 ≠ s.power1) :
    i = .reset ∨
      ((∃ x, i = .demSample x) ∧ s.demActive = true ∧ s.demSkip = 0 ∧ (s.demWcnt + 1).toNat = spb s.cfg) := by
  have habsurd (h0 : t.power0 = s.power0) (h1 : t.power1 = s.power1) : False := hne.elim (· h0) (· h1)
  cases h with
  | keeps h =>
    obtain ⟨-, -, -, -, -, -, -, -, -, -, -, h0, h1, -⟩ := h
    exact (habsurd h0 h1).elim
  | reset => exact .inl rfl
  | demCompletes x hact hskip hwcnt => exact .inr ⟨⟨x, rfl⟩, hact, hskip, hwcnt⟩
  | modStart | modByte | modEnd | demStart | demSkips | demFeeds | demEnd =>
    exact (habsurd (by simp) (by simp)).elim

end Streams

/-! ### The configuration's legality (R29) -/

theorem cfgLegal_iff (c : Cfg) : cfgLegal c = true ↔
    c.sampleRate.toNat ≥ 1 ∧ c.bitRate.toNat ≥ 1 ∧ c.sampleRate.toNat % c.bitRate.toNat = 0 ∧
      c.sampleRate.toNat / c.bitRate.toNat ≤ 2 ^ 20 := by
  have hmax : Config.spbMax = 2 ^ 20 := rfl
  simp only [cfgLegal, Bool.and_eq_true, decide_eq_true_eq, beq_iff_eq, and_assoc, hmax, ge_iff_le]

/-! ### The statements -/

/-- Settles O7: the predicate part by part, and the equation of each start's ERR_CONFIG case. -/
theorem cfgLegalIsThePredicate : Obligations.CfgLegalIsThePredicate :=
  ⟨cfgLegal_iff, fun _ hcfg =>
    ⟨fun hact => runModStart_illegal _ hact hcfg, fun hact => runDemStart_illegal _ hact hcfg⟩⟩

/-- Settles O8: the writers of the two stream bits by the cases of `StreamStep`. -/
theorem statusBitsAndTheirWriters : Obligations.StatusBitsAndTheirWriters :=
  ⟨statusWord_bits, ⟨rfl, rfl⟩, fun _ _ _ h =>
    ⟨(streamStep_of_exec h).modActive_writer, (streamStep_of_exec h).demActive_writer⟩⟩

/-- Settles O34: the writers of the powers by the cases of `StreamStep`, where DEM_WCNT below 2^32 - 1 does not wrap.
In the second part the window's length itself, at most SPB_MAX, keeps DEM_WCNT from wrapping. -/
theorem powersChangeOnlyAtAWindowsEnd : Obligations.PowersChangeOnlyAtAWindowsEnd := by
  refine ⟨fun i s t hlt h hne => ?_, fun x s hact hskip hwcnt => ?_⟩
  · have hwriter := (streamStep_of_exec h).power_writer hne
    rwa [toNat_succ_of_lt hlt] at hwriter
  · have hlt : s.demWcnt.toNat < 2 ^ 32 - 1 := by
      have hspb := spb_le s.cfg
      simp only [Config.spbMax] at hspb
      omega
    have hexec := runDemSample_completes Config.num x hact hskip ((toNat_succ_of_lt hlt).trans hwcnt)
    refine ⟨_, hexec, ?_, ?_⟩
    · rw [respond_power0, closeWindow_power0]
      rfl
    · rw [respond_power1, closeWindow_power1]
      rfl

end Sys2Proof.Machine
end

section
/-! PROOFS. The two forms of R87, its opcode map that `checkedRow` reads and its match and mask table that
`Transaction.wellFormed` reads, agree on each check of R90; a transaction that passes them is the encoding of the command
it decodes to (R81 to R84, R88). Then the response codes (R86). -/

namespace Sys2Proof

/-! ### The fields of a command word (R81) -/

theorem opcField_toNat (w : Word) : (opcField w).toNat = w.toNat / 2 ^ 24 := by
  have hw : w.toNat < 2 ^ 32 := w.isLt
  rw [opcField, BitVec.extractLsb'_toNat, Nat.shiftRight_eq_div_pow]
  omega

theorem ushiftRight_eq_opcField (w : Word) : w >>> 24 = (opcField w).setWidth 32 := by
  have hw : w.toNat < 2 ^ 32 := w.isLt
  apply BitVec.eq_of_toNat_eq
  rw [BitVec.toNat_ushiftRight, BitVec.toNat_setWidth, opcField_toNat, Nat.shiftRight_eq_div_pow]
  omega

/-- Masking with eight ones at bit k keeps the 8-bit field there and nothing else. -/
theorem and_byteMask (w : Word) (k : Nat) :
    w &&& ((0xFF : Byte).setWidth 32 <<< k) = (w.extractLsb' k 8).setWidth 32 <<< k := by
  apply BitVec.eq_of_getLsbD_eq
  intro i hi
  have hmask (j : Nat) : (0xFF : Byte).getLsbD j = decide (j < 8) := BitVec.getLsbD_allOnes (v := 8)
  simp only [BitVec.getLsbD_and, BitVec.getLsbD_shiftLeft, BitVec.getLsbD_setWidth, BitVec.getLsbD_extractLsb', hmask]
  grind

theorem and_byteMask_eq_zero_iff (w : Word) (k : Nat) (hk : k + 8 ≤ 32) :
    w &&& ((0xFF : Byte).setWidth 32 <<< k) = 0 ↔ w.extractLsb' k 8 = 0 := by
  rw [and_byteMask]
  refine ⟨fun h => BitVec.eq_of_getLsbD_eq fun i hi => ?_, fun h => by simp [h]⟩
  have hbit := congrArg (BitVec.getLsbD · (k + i)) h
  simpa [show k + i < 32 by omega, hi] using hbit

/-- A word is put together again from its four fields. -/
theorem append_fields (w : Word) : opcField w ++ rsvField w ++ aField w ++ bField w = w := by
  simp only [opcField, rsvField, aField, bField]
  rw [BitVec.extractLsb'_append_extractLsb'_eq_extractLsb' (by rfl),
    BitVec.extractLsb'_append_extractLsb'_eq_extractLsb' (by rfl),
    BitVec.extractLsb'_append_extractLsb'_eq_extractLsb' (by rfl)]
  exact BitVec.extractLsb'_eq_self

theorem commandWord_fields {m : Mnemonic} {w : Word} (hopc : opcField w = m.opcode) (hrsv : rsvField w = 0) :
    commandWord m (aField w) (bField w) = w := by
  have h := append_fields w
  rwa [hopc, hrsv] at h

/-! ### The opcodes that have a row (R87, R88) -/

theorem ofOpcode_eq_some_iff {opc : Byte} {m : Mnemonic} : Mnemonic.ofOpcode opc = some m ↔ opc = m.opcode := by
  constructor
  · intro h
    unfold Mnemonic.ofOpcode at h
    split at h <;> cases h <;> exact BitVec.eq_of_toNat_eq ‹opc.toNat = _›
  · rintro rfl
    exact ofOpcode_opcode m

/-- The opcode values that R88 lists as having no row. -/
def UndefinedOpcode (o : Nat) : Prop :=
  0x05 ≤ o ∧ o ≤ 0x0F ∨ 0x13 ≤ o ∧ o ≤ 0x1F ∨ 0x24 ≤ o ∧ o ≤ 0x2F ∨ 0x33 ≤ o ∧ o ≤ 0x3F ∨ 0x43 ≤ o

theorem ofOpcode_eq_none_iff (opc : Byte) : Mnemonic.ofOpcode opc = none ↔ UndefinedOpcode opc.toNat := by
  unfold Mnemonic.ofOpcode UndefinedOpcode
  split <;> simp only [reduceCtorEq, false_iff, true_iff, imp_false] at * <;> omega

/-! ### The row of R87's match and mask table -/

section Checks

variable {α : Type} {t : Transaction α} {m : Mnemonic}

theorem row_eq_find (t : Transaction α) :
    t.row = opRows.find? fun r : OpRow => r.value >>> 24 == (opcField t.word).setWidth 32 := by
  rw [← ushiftRight_eq_opcField]
  rfl

/-- The table's row of an opcode masks a used field away and an unused one in, and has the opcode map's lane kind. -/
theorem row_of_opcField (h : opcField t.word = m.opcode) :
    ∃ r, t.row = some r ∧ r.mask &&& 0x0000FF00 = (if m.usesA then 0 else 0x0000FF00) ∧
      r.mask &&& 0x000000FF = (if m.usesB then 0 else 0x000000FF) ∧ r.lane = m.laneIn := by
  rw [row_eq_find, h]
  cases m <;> refine ⟨_, rfl, ?_⟩ <;> exact ⟨rfl, rfl, rfl⟩

theorem ofOpcode_isSome_of_mem_opRows : ∀ r ∈ opRows, (Mnemonic.ofOpcode (opcField r.value)).isSome = true := by
  decide

/-- The table has a row exactly where the opcode map has one. -/
theorem opcodeDefined_eq_isSome (t : Transaction α) :
    t.opcodeDefined = (Mnemonic.ofOpcode (opcField t.word)).isSome := by
  cases hm : Mnemonic.ofOpcode (opcField t.word) with
  | some m =>
    obtain ⟨r, hr, -⟩ := row_of_opcField (ofOpcode_eq_some_iff.1 hm)
    simp [Transaction.opcodeDefined, hr]
  | none =>
    cases hr : t.row with
    | none => simp [Transaction.opcodeDefined, hr]
    | some r =>
      have hsome := ofOpcode_isSome_of_mem_opRows r (List.mem_of_find?_eq_some hr)
      have hopc : opcField r.value = opcField t.word := by
        rw [row_eq_find] at hr
        have h := beq_iff_eq.1 (List.find?_some (p := fun r : OpRow => r.value >>> 24 == _) hr)
        rw [ushiftRight_eq_opcField] at h
        simpa using congrArg (BitVec.setWidth 8) h
      simp [hopc, hm] at hsome

theorem opcodeDefined_eq_false_iff (t : Transaction α) :
    t.opcodeDefined = false ↔ UndefinedOpcode (t.word.toNat / 2 ^ 24) := by
  rw [opcodeDefined_eq_isSome, Option.isSome_eq_false_iff, Option.isNone_iff_eq_none, ofOpcode_eq_none_iff,
    opcField_toNat]

/-! ### The checks of R90, read on the fields -/

theorem reservedClear_iff (t : Transaction α) : t.reservedClear = true ↔ rsvField t.word = 0 :=
  beq_iff_eq.trans (and_byteMask_eq_zero_iff t.word 16 (by omega))

theorem unusedAClear_iff (h : opcField t.word = m.opcode) :
    t.unusedAClear = true ↔ (m.usesA = false → aField t.word = 0) := by
  obtain ⟨r, hr, hmask, -⟩ := row_of_opcField h
  rw [Transaction.unusedAClear, hr, Option.any_some, beq_iff_eq, BitVec.and_assoc, hmask]
  cases m.usesA with
  | true => simp
  | false => simpa [aField] using and_byteMask_eq_zero_iff t.word 8 (by omega)

theorem unusedBClear_iff (h : opcField t.word = m.opcode) :
    t.unusedBClear = true ↔ (m.usesB = false → bField t.word = 0) := by
  obtain ⟨r, hr, -, hmask, -⟩ := row_of_opcField h
  rw [Transaction.unusedBClear, hr, Option.any_some, beq_iff_eq, BitVec.and_assoc, hmask]
  cases m.usesB with
  | true => simp
  | false => simpa [bField] using and_byteMask_eq_zero_iff t.word 0 (by omega)

theorem laneFits_iff (h : opcField t.word = m.opcode) : t.laneFits = true ↔ t.data.kind = m.laneIn := by
  obtain ⟨r, hr, -, -, hlane⟩ := row_of_opcField h
  rw [Transaction.laneFits, hr, Option.any_some, beq_iff_eq, hlane]

/-- The checks that R90 makes of a transaction, as one condition on its fields for the row `m`. -/
structure FitsRow (t : Transaction α) (m : Mnemonic) : Prop where
  opcode : opcField t.word = m.opcode
  reserved : rsvField t.word = 0
  unusedA : m.usesA = false → aField t.word = 0
  unusedB : m.usesB = false → bField t.word = 0
  lane : t.data.kind = m.laneIn

theorem checkedRow_eq_ok_iff : checkedRow t = .ok m ↔ FitsRow t m := by
  constructor
  · intro h
    unfold checkedRow at h
    split at h
    · cases h
    next m' hm =>
      split_ifs at h with hrsv hA hB hlane
      cases h
      exact ⟨ofOpcode_eq_some_iff.1 hm, by simpa using hrsv, by simpa using hA, by simpa using hB, by simpa using hlane⟩
  · rintro ⟨hopc, hrsv, hA, hB, hlane⟩
    simp only [checkedRow, ofOpcode_eq_some_iff.2 hopc]
    rw [if_neg (not_not_intro hrsv), if_neg fun h => h.2 (hA h.1), if_neg fun h => h.2 (hB h.1),
      if_neg (not_not_intro hlane)]

theorem wellFormed_iff_fitsRow (t : Transaction α) : t.wellFormed = true ↔ ∃ m, FitsRow t m := by
  simp only [Transaction.wellFormed, Transaction.unusedClear, Bool.and_eq_true]
  constructor
  · rintro ⟨⟨⟨hdef, hrsv⟩, hA, hB⟩, hlane⟩
    rw [opcodeDefined_eq_isSome, Option.isSome_iff_exists] at hdef
    obtain ⟨m, hm⟩ := hdef
    have hopc := ofOpcode_eq_some_iff.1 hm
    exact ⟨m, hopc, (reservedClear_iff t).1 hrsv, (unusedAClear_iff hopc).1 hA, (unusedBClear_iff hopc).1 hB,
      (laneFits_iff hopc).1 hlane⟩
  · rintro ⟨m, hopc, hrsv, hA, hB, hlane⟩
    have hdef : t.opcodeDefined = true := by
      rw [opcodeDefined_eq_isSome, ofOpcode_eq_some_iff.2 hopc, Option.isSome_some]
    exact ⟨⟨⟨hdef, (reservedClear_iff t).2 hrsv⟩, (unusedAClear_iff hopc).2 hA, (unusedBClear_iff hopc).2 hB⟩,
      (laneFits_iff hopc).2 hlane⟩

end Checks

/-! ### From a row to its command -/

theorem kind_eq_none_iff {d : DataLane} : d.kind = .none ↔ d = .none := by
  cases d <;> simp [DataLane.kind]

theorem kind_eq_u32_iff {d : DataLane} : d.kind = .u32 ↔ ∃ v, d = .u32 v := by
  cases d <;> simp [DataLane.kind]

theorem kind_eq_sample_iff {d : DataLane} : d.kind = .sample ↔ ∃ x, d = .sample x := by
  cases d <;> simp [DataLane.kind]

/-- A row, its operands and a lane item of its kind make a command, whose encoding they are. -/
theorem buildInstr_encodes {m : Mnemonic} {a b : Byte} {d : DataLane} (hA : m.usesA = false → a = 0)
    (hB : m.usesB = false → b = 0) (hlane : d.kind = m.laneIn) :
    ∃ i, buildInstr m a b d = .ok i ∧ encode i = ⟨commandWord m a b, d⟩ := by
  cases m with
  | nop | reset | crcInit | pktSeal | modStart | modEnd | demStart | demEnd =>
    obtain rfl := hA rfl
    obtain rfl := hB rfl
    obtain rfl := kind_eq_none_iff.1 hlane
    exact ⟨_, rfl, rfl⟩
  | regRd | sregRd | crcByte | modByte =>
    obtain rfl := hA rfl
    obtain rfl := kind_eq_none_iff.1 hlane
    exact ⟨_, rfl, rfl⟩
  | regWr =>
    obtain rfl := hA rfl
    obtain ⟨v, rfl⟩ := kind_eq_u32_iff.1 hlane
    exact ⟨_, rfl, rfl⟩
  | crcCheck | pktCheck =>
    obtain rfl := hA rfl
    obtain rfl := hB rfl
    obtain ⟨v, rfl⟩ := kind_eq_u32_iff.1 hlane
    exact ⟨_, rfl, rfl⟩
  | bufWr =>
    obtain rfl := kind_eq_none_iff.1 hlane
    exact ⟨_, rfl, rfl⟩
  | bufRd =>
    obtain rfl := hB rfl
    obtain rfl := kind_eq_none_iff.1 hlane
    exact ⟨_, rfl, rfl⟩
  | demSample =>
    obtain rfl := hA rfl
    obtain rfl := hB rfl
    obtain ⟨x, rfl⟩ := kind_eq_sample_iff.1 hlane
    exact ⟨_, rfl, rfl⟩

theorem FitsRow.decode_encodes {t : Transaction} {m : Mnemonic} (h : FitsRow t m) :
    ∃ i, decode t = .ok i ∧ encode i = t := by
  obtain ⟨i, hbuild, hencode⟩ := buildInstr_encodes h.unusedA h.unusedB h.lane
  refine ⟨i, ?_, ?_⟩
  · simp only [decode, checkedRow_eq_ok_iff.2 h, hbuild]
  · rw [hencode, commandWord_fields h.opcode h.reserved]

theorem decode_encodes_of_wellFormed {t : Transaction} (h : t.wellFormed = true) :
    ∃ i, decode t = .ok i ∧ encode i = t := by
  obtain ⟨m, hm⟩ := (wellFormed_iff_fitsRow t).1 h
  exact hm.decode_encodes

theorem decode_error_of_not_wellFormed {t : Transaction} (h : t.wellFormed = false) :
    ∃ e, decode t = .error e := by
  cases hrow : checkedRow t with
  | error e => exact ⟨e, by simp only [decode, hrow]⟩
  | ok m =>
    have hwf := (wellFormed_iff_fitsRow t).2 ⟨m, checkedRow_eq_ok_iff.1 hrow⟩
    exact absurd hwf (by simp [h])

end Sys2Proof

namespace Sys2Proof.Machine

/-! ### What the block does with a transaction -/

theorem accept_of_decode_ok {t : Transaction} {i : Instr} (s : State) (h : decode t = .ok i) :
    accept t s = exec i s := by
  simp only [accept, h]

theorem accept_of_decode_error {t : Transaction} {e : DecodeError} (s : State) (h : decode t = .error e) :
    accept t s = .next (respond .errIllegal .none s) := by
  simp only [accept, h]
  rfl

/-! ### The response codes (R85, R86) -/

theorem responseWord_toNat {α : Type} (r : Response α) : (responseWord r).toNat = (respCodeBits r.code).toNat :=
  BitVec.toNat_setWidth_of_le (by omega)

theorem respCodeBits_not_reserved (c : RespCode) :
    (respCodeBits c).toNat ≤ 3 ∨ 8 ≤ (respCodeBits c).toNat ∧ (respCodeBits c).toNat ≤ 13 := by
  cases c <;> decide

/-! ### The statements -/

/-- Settles O51: both forms of R87 make the same checks (`wellFormed_iff_fitsRow`), and a transaction that passes them is
put together again from its fields (`commandWord_fields`). -/
theorem illFormedTransactionsAnswerIllegal : Obligations.IllFormedTransactionsAnswerIllegal := by
  refine ⟨fun x => ⟨opcodeDefined_eq_false_iff x, reservedClear_iff x⟩, fun x s => ⟨fun h => ?_, fun h => ?_⟩⟩
  · obtain ⟨e, he⟩ := decode_error_of_not_wellFormed h
    exact accept_of_decode_error s he
  · obtain ⟨i, hdecode, hencode⟩ := decode_encodes_of_wellFormed h
    exact ⟨i, hdecode, hencode, accept_of_decode_ok s hdecode⟩

/-- Settles O44: the table row by row; a response word's value is that of its code, which is none of the reserved ones. -/
theorem responseCodeValues : Obligations.ResponseCodeValues := by
  refine ⟨⟨rfl, rfl, rfl, rfl, rfl, rfl, rfl, rfl, rfl, rfl⟩, ⟨rfl, rfl, rfl, rfl, rfl, rfl, rfl, rfl, rfl, rfl⟩,
    fun r => ⟨responseWord_toNat r, ?_⟩⟩
  rw [responseWord_toNat]
  exact respCodeBits_not_reserved r.code

end Sys2Proof.Machine
end

section
/-! PROOFS. Every command has one encoding, which decodes to it and to which no other transaction does (R81, R90). -/

namespace Sys2Proof

theorem encode_fields : ∀ i : Instr, Laws.EncodeFields.Statement i
  | .nop => Laws.EncodeFields.nop
  | .reset => Laws.EncodeFields.reset
  | .regRd r => Laws.EncodeFields.regRd r
  | .regWr r v => Laws.EncodeFields.regWr r v
  | .sregRd r => Laws.EncodeFields.sregRd r
  | .crcInit => Laws.EncodeFields.crcInit
  | .crcByte b => Laws.EncodeFields.crcByte b
  | .crcCheck e => Laws.EncodeFields.crcCheck e
  | .bufWr a b => Laws.EncodeFields.bufWr a b
  | .bufRd a => Laws.EncodeFields.bufRd a
  | .pktSeal => Laws.EncodeFields.pktSeal
  | .pktCheck m => Laws.EncodeFields.pktCheck m
  | .modStart => Laws.EncodeFields.modStart
  | .modByte b => Laws.EncodeFields.modByte b
  | .modEnd => Laws.EncodeFields.modEnd
  | .demStart => Laws.EncodeFields.demStart
  | .demSample x => Laws.EncodeFields.demSample x
  | .demEnd => Laws.EncodeFields.demEnd

theorem fitsRow_encode (i : Instr) : FitsRow (encode i) i.mnemonic := by
  obtain ⟨hopc, hrsv, hA, hB, hlane⟩ := encode_fields i
  exact ⟨hopc, hrsv, hA, hB, hlane⟩

/-- The row's command, built from the fields of a command's encoding, is that command. -/
theorem buildInstr_encode (i : Instr) :
    buildInstr i.mnemonic (aField (encode i).word) (bField (encode i).word) (encode i).data = .ok i := by
  cases i <;> simp [encode, Instr.mnemonic, buildInstr]

theorem decode_encode (i : Instr) : decode (encode i) = .ok i := by
  simp only [decode, checkedRow_eq_ok_iff.2 (fitsRow_encode i), buildInstr_encode]

theorem encode_of_decode {t : Transaction} {i : Instr} (h : decode t = .ok i) : encode i = t := by
  cases hrow : checkedRow t with
  | error e => simp [decode, hrow] at h
  | ok m =>
    obtain ⟨i', hdecode, hencode⟩ := (checkedRow_eq_ok_iff.1 hrow).decode_encodes
    obtain rfl : i' = i := Except.ok.inj (hdecode.symm.trans h)
    exact hencode

theorem encodedAs_encode (i : Instr) : Machine.EncodedAs i (encode i) := by
  refine fun y => ⟨fun h => (encode_of_decode h).symm, ?_⟩
  rintro rfl
  exact decode_encode i

end Sys2Proof
end

section
/-! PROOFS. NOP, REG_RD, REG_WR and SREG_RD: the register numbers of R23 and R41 by their access, an equation per
case of each command, and the statements about them (R100, R102 to R104). -/

namespace Sys2Proof.Machine

/-! ### The register numbers (R23, R40, R41) -/

theorem IntReg.ofNum_eq_none_iff (r : Byte) : IntReg.ofNum r = none ↔ 0x12 ≤ r.toNat := by
  unfold IntReg.ofNum
  split <;> simp only [reduceCtorEq, false_iff, true_iff, imp_false] at * <;> omega

/-- R23's access column by number: the CFG registers are 1 to 4, and CRC_STATE is 8. -/
theorem IntReg.access_of_ofNum {r : Byte} {reg : IntReg} (hreg : IntReg.ofNum r = some reg) :
    reg.access = if 1 ≤ r.toNat ∧ r.toNat ≤ 4 then .cfg else if r.toNat = 8 then .rw else .ro := by
  unfold IntReg.ofNum at hreg
  split at hreg <;> cases hreg <;> simp [IntReg.access, *]

theorem SampleReg.ofNum_eq_none_iff (r : Byte) : SampleReg.ofNum r = none ↔ 0x08 ≤ r.toNat := by
  unfold SampleReg.ofNum
  split <;> simp only [reduceCtorEq, false_iff, true_iff, imp_false] at * <;> omega

/-! ### An equation per case of REG_RD, REG_WR and SREG_RD (R102 to R104) -/

section Equations

variable {α : Type} (N : Numerics α) {r : Byte} {s : State α}

theorem runRegRd_defined (reg : IntReg) (hreg : IntReg.ofNum r = some reg) :
    runRegRd r s = .next (respond .ok (.u32 (readReg reg s)) s) := by
  simp [runRegRd, hreg]

theorem runRegRd_undefined (hreg : IntReg.ofNum r = none) : runRegRd r s = .next (respond .errArg .none s) := by
  simp [runRegRd, hreg]

theorem runRegWr_undefined (v : Word) (hreg : IntReg.ofNum r = none) :
    runRegWr r v s = .next (respond .errArg .none s) := by
  simp [runRegWr, hreg]

theorem runRegWr_ro {reg : IntReg} (v : Word) (hreg : IntReg.ofNum r = some reg) (hacc : reg.access = .ro) :
    runRegWr r v s = .next (respond .errArg .none s) := by
  simp [runRegWr, hreg, hacc]

theorem runRegWr_cfg_busy {reg : IntReg} (v : Word) (hreg : IntReg.ofNum r = some reg) (hacc : reg.access = .cfg)
    (hopen : streamOpen s = true) : runRegWr r v s = .next (respond .errBusy .none s) := by
  simp [runRegWr, hreg, hacc, hopen]

theorem runRegWr_cfg_writes {reg : IntReg} (v : Word) (hreg : IntReg.ofNum r = some reg) (hacc : reg.access = .cfg)
    (hopen : streamOpen s = false) : runRegWr r v s = .next (respond .ok .none (writeReg reg v s)) := by
  simp [runRegWr, hreg, hacc, hopen]

theorem runRegWr_rw {reg : IntReg} (v : Word) (hreg : IntReg.ofNum r = some reg) (hacc : reg.access = .rw) :
    runRegWr r v s = .next (respond .ok .none (writeReg reg v s)) := by
  simp [runRegWr, hreg, hacc]

theorem runSregRd_defined (reg : SampleReg) (hreg : SampleReg.ofNum r = some reg) :
    runSregRd N r s = .next (respond .ok (.sample (readSample N reg s)) s) := by
  simp [runSregRd, hreg]

theorem runSregRd_undefined (hreg : SampleReg.ofNum r = none) :
    runSregRd N r s = .next (respond .errArg .none s) := by
  simp [runSregRd, hreg]

/-- COEFF0 and COEFF1 written out from the configuration registers: the legality is asked once (R30, R31, R42). -/
theorem coeff_eq_ite (c : Cfg) (v : Bool) : coeff N c v =
    if cfgLegal c then
      N.gcoeff ((2 * (c.sampleRate.toNat / c.bitRate.toNat * (c.freq v).toNat) + c.sampleRate.toNat) /
        (2 * c.sampleRate.toNat)) (c.sampleRate.toNat / c.bitRate.toNat)
    else N.zero := by
  cases h : cfgLegal c with
  | true => simp [coeff, binIndex, spb, roundDiv, h]
  | false => simp [coeff, h]

end Equations

/-! ### The statements -/

/-- Settles O3: the one encoding of NOP, and NOP's only response. -/
theorem nopAnswersOkAndChangesNothing : Obligations.NopAnswersOkAndChangesNothing :=
  ⟨encodedAs_encode .nop, fun _ => rfl⟩

/-- Settles O4: R23's table row by row; no number from 0x12 on names a register. -/
theorem regRdAnswersEachRegister : Obligations.RegRdAnswersEachRegister := by
  refine ⟨fun r => encodedAs_encode (.regRd r), fun s => ?_⟩
  intro spbNow binNow gives
  have hgives (reg : IntReg) {r : Byte} (hreg : IntReg.ofNum r = some reg) : gives r (readReg reg s) :=
    runRegRd_defined reg hreg
  exact ⟨hgives .status rfl, hgives .sampleRate rfl, hgives .bitRate rfl, hgives .freq0 rfl, hgives .freq1 rfl,
    hgives .spb rfl, hgives .k0 rfl, hgives .k1 rfl, hgives .crcState rfl, hgives .crcResult rfl, hgives .modN rfl,
    hgives .demSkip rfl, hgives .demWcnt rfl, hgives .demBsr rfl, hgives .demBcnt rfl, hgives .demLastbit rfl,
    hgives .pktLen rfl, hgives .pktCalc rfl, fun _ h => runRegRd_undefined ((IntReg.ofNum_eq_none_iff _).2 h)⟩

/-- Settles O5: the register's access, and for a CFG register whether a stream is open, fix the case of R103. -/
theorem regWrWritesOrRefuses : Obligations.RegWrWritesOrRefuses := by
  refine ⟨fun r v => encodedAs_encode (.regWr r v), fun s v => ⟨fun hmod hdem => ?_, fun hopen r h1 h4 => ?_, ?_,
    fun r h h8 => ?_⟩⟩
  · have hclosed : streamOpen s = false := Bool.or_eq_false_iff.2 ⟨hmod, hdem⟩
    have hwrites (r : Byte) (reg : IntReg) (hreg : IntReg.ofNum r = some reg) (hacc : reg.access = .cfg) :
        exec (.regWr r v) s = .next (respond .ok .none (writeReg reg v s)) :=
      runRegWr_cfg_writes v hreg hacc hclosed
    exact ⟨hwrites 0x01 .sampleRate rfl rfl, hwrites 0x02 .bitRate rfl rfl, hwrites 0x03 .freq0 rfl rfl,
      hwrites 0x04 .freq1 rfl rfl⟩
  · cases hreg : IntReg.ofNum r with
    | none =>
      have hundef := (IntReg.ofNum_eq_none_iff r).1 hreg
      omega
    | some reg =>
      have hacc : reg.access = .cfg := (IntReg.access_of_ofNum hreg).trans (if_pos ⟨h1, h4⟩)
      exact runRegWr_cfg_busy v hreg hacc (Bool.or_eq_true_iff.2 hopen)
  · exact runRegWr_rw (r := 0x08) (reg := .crcState) v rfl rfl
  · cases hreg : IntReg.ofNum r with
    | none => exact runRegWr_undefined v hreg
    | some reg =>
      have hacc : reg.access = .ro := by
        rw [IntReg.access_of_ofNum hreg, if_neg (by omega), if_neg h8]
      exact runRegWr_ro v hreg hacc

/-- Settles O6: R41's table row by row, the coefficients by `coeff_eq_ite`; no number from 0x08 on names a register. -/
theorem sregRdAnswersEachRegister : Obligations.SregRdAnswersEachRegister := by
  refine ⟨fun r => encodedAs_encode (.sregRd r), fun s => ?_⟩
  intro coeffNow gives
  have hgives (reg : SampleReg) {r : Byte} (hreg : SampleReg.ofNum r = some reg) {x : Sample}
      (hx : readSample Config.num reg s = x) : gives r x := hx ▸ runSregRd_defined _ reg hreg
  exact ⟨hgives .s1_0 rfl rfl, hgives .s2_0 rfl rfl, hgives .s1_1 rfl rfl, hgives .s2_1 rfl rfl,
    hgives .power0 rfl rfl, hgives .power1 rfl rfl, hgives .coeff0 rfl (coeff_eq_ite _ s.cfg false),
    hgives .coeff1 rfl (coeff_eq_ite _ s.cfg true),
    fun _ h => runSregRd_undefined _ ((SampleReg.ofNum_eq_none_iff _).2 h)⟩

end Sys2Proof.Machine
end

section
/-! PROOFS. CRC_INIT, CRC_BYTE and CRC_CHECK: an equation per case of CRC_CHECK's verdict, and the statement about the
three commands (R124 to R126). -/

namespace Sys2Proof.Machine

/-! ### The two outcomes of CRC_CHECK (R126) -/

section Equations

variable {α : Type} {e : Word} {s : State α}

theorem runCrcCheck_match (h : readReg .crcResult s = e) :
    runCrcCheck e s = .next (respond .ok (.u32 (readReg .crcResult s)) s) := by
  simp only [runCrcCheck, if_pos h, answer]

theorem runCrcCheck_mismatch (h : readReg .crcResult s ≠ e) :
    runCrcCheck e s = .next (respond .integrityError (.u32 (readReg .crcResult s)) s) := by
  simp only [runCrcCheck, if_neg h, answer]

end Equations

/-! ### The statement -/

/-- Settles O9: each command's one encoding; CRC_INIT and CRC_BYTE write CRC_STATE in every state, and CRC_CHECK's
verdict is whether CRC_RESULT, which is CRC_STATE with every bit inverted (R23), is the expected word. -/
theorem crcCommandsActOnCrcState : Obligations.CrcCommandsActOnCrcState := by
  refine ⟨encodedAs_encode .crcInit, fun b => encodedAs_encode (.crcByte b),
    fun e => encodedAs_encode (.crcCheck e), fun s => ⟨rfl, fun _ => rfl, fun e => ?_⟩⟩
  by_cases h : s.crcState ^^^ 0xFFFFFFFF = e
  · rw [if_pos h]
    exact runCrcCheck_match h
  · rw [if_neg h]
    exact runCrcCheck_mismatch h

end Sys2Proof.Machine
end

section
/-! PROOFS. BUF_WR, BUF_RD, PKT_SEAL and PKT_CHECK: PBUF read at distinct addresses is one reading of it (R72), the
addresses the packet commands read, an equation per case of each command, and the statements about them (R143 to
R146). -/

namespace Sys2Proof.Machine

/-! ### Reads as one reading of PBUF (R72) -/

section Reads

variable {α : Type}

/-- Reading the addresses `as` in order gives each of them its value in `v`. -/
def ReadsAs (v : Nat → Byte) (as : List Byte) (s : State α) : Prop :=
  (memReads as s).1 = as.map fun a => v a.toNat

theorem memReads_append (as bs : List Byte) (s : State α) :
    memReads (as ++ bs) s =
      ((memReads as s).1 ++ (memReads bs (memReads as s).2).1, (memReads bs (memReads as s).2).2) := by
  induction as generalizing s with
  | nil => rfl
  | cons a as ih => simp only [List.cons_append, memReads, ih]

theorem exists_memReads_eq (as : List Byte) (s : State α) : ∃ n, (memReads as s).2 = { s with draws := n } :=
  ⟨_, memReads_state as s⟩

theorem readsAs_append_iff {v : Nat → Byte} {as bs : List Byte} {s : State α} :
    ReadsAs v (as ++ bs) s ↔ ReadsAs v as s ∧ ReadsAs v bs (memReads as s).2 := by
  simp only [ReadsAs, memReads_append, List.map_append]
  exact ⟨fun h => List.append_inj h (by simp), fun ⟨has, hbs⟩ => by rw [has, hbs]⟩

theorem possibleReading_memReads_iff {v : Nat → Byte} {as : List Byte} {s : State} :
    PossibleReading (memReads as s).2 v ↔ PossibleReading s v := by
  simp only [PossibleReading, memReads_pbuf]

/-- A byte just read may be taken into any possible reading. -/
theorem PossibleReading.update_memRead {v : Nat → Byte} {a : Byte} {s : State} (hv : PossibleReading s v) :
    PossibleReading s (Function.update v a.toNat (memRead a s).1) := by
  intro x b hb
  by_cases hx : x = a.toNat
  · subst hx
    rw [Function.update_self, memRead_written hb]
  · rw [Function.update_of_ne hx]
    exact hv x b hb

/-- Each unwritten byte reads as a draw, anew at each read; so reads that meet each byte at most once are one possible
reading of PBUF. -/
theorem exists_possibleReading_readsAs {as : List Byte} (hnodup : as.Nodup) (s : State) :
    ∃ v, PossibleReading s v ∧ ReadsAs v as s := by
  induction as generalizing s with
  | nil => exact ⟨fun x => (s.pbuf.find x).getD 0, fun a b hb => by simp [hb], rfl⟩
  | cons a as ih =>
    obtain ⟨hnotin, hnodup⟩ := List.nodup_cons.1 hnodup
    obtain ⟨v, hv, hreads⟩ := ih hnodup (memRead a s).2
    have hv : PossibleReading s v := possibleReading_memReads_iff (as := [a]).1 hv
    refine ⟨_, hv.update_memRead (a := a), ?_⟩
    have hrest : as.map (fun x => Function.update v a.toNat (memRead a s).1 x.toNat) = as.map fun x => v x.toNat := by
      refine List.map_congr_left fun x hx => Function.update_of_ne (fun he => hnotin ?_) _ _
      rwa [← BitVec.eq_of_toNat_eq he]
    rw [ReadsAs, List.map_cons, Function.update_self, hrest, ← hreads]
    rfl

end Reads

/-! ### The addresses of a frame (R140) -/

section Addresses

variable {len : Nat}

theorem payloadAddr_toNat {j : Nat} (hlen : len ≤ 245) (hj : j < len) :
    (BitVec.ofNat 8 (Config.headerLen + j)).toNat = 11 + j :=
  Nat.mod_eq_of_lt (by simp only [Config.headerLen]; omega)

theorem map_payloadAddrs {β : Type} (f : Nat → β) (hlen : len ≤ 245) :
    ((payloadAddrs len).map fun a => f a.toNat) = (List.range len).map fun j => f (11 + j) := by
  rw [payloadAddrs, List.map_map]
  exact List.map_congr_left fun j hj => congrArg f (payloadAddr_toNat hlen (List.mem_range.1 hj))

theorem toNat_ge_of_mem_payloadAddrs (hlen : len ≤ 245) {a : Byte} (ha : a ∈ payloadAddrs len) : 11 ≤ a.toNat := by
  obtain ⟨j, hj, rfl⟩ := List.mem_map.1 ha
  rw [payloadAddr_toNat hlen (List.mem_range.1 hj)]
  exact Nat.le_add_right 11 j

/-- A payload that fits the frame does not wrap around PBUF, so its addresses are distinct. -/
theorem nodup_payloadAddrs (hlen : len ≤ 245) : (payloadAddrs len).Nodup := by
  refine List.Nodup.of_map BitVec.toNat ?_
  rw [map_payloadAddrs (fun x => x) hlen]
  exact List.nodup_range.map fun _ _ h => Nat.add_left_cancel h

/-- Header addresses and the payload's are distinct. -/
theorem nodup_append_payloadAddrs {as : List Byte} (hlen : len ≤ 245) (has : as.Nodup)
    (hheader : ∀ a ∈ as, a.toNat < 11) : (as ++ payloadAddrs len).Nodup :=
  has.append (nodup_payloadAddrs hlen) fun a ha hp =>
    absurd (hheader a ha) (Nat.not_lt.2 (toNat_ge_of_mem_payloadAddrs hlen hp))

/-- What PKT_SEAL reads, in its order: the length field, the rest of the covered header, the payload (R145). -/
def sealAddrs (len : Nat) : List Byte := lengthAddrs ++ ([0, 1, 2, 3, 4] ++ payloadAddrs len)

/-- What PKT_CHECK reads once the length is accepted: the covered bytes, then the stored checksum (R146). -/
def verifyAddrs (len : Nat) : List Byte := ([0, 1, 2, 3, 4, 5, 6] ++ payloadAddrs len) ++ checksumAddrs

/-- PKT_SEAL reads each byte at most once (R145). -/
theorem nodup_sealAddrs (hlen : len ≤ 245) : (sealAddrs len).Nodup :=
  nodup_append_payloadAddrs (as := lengthAddrs ++ [0, 1, 2, 3, 4]) hlen (by decide) (by decide)

theorem nodup_verifyAddrs (hlen : len ≤ 245) : (verifyAddrs len).Nodup := by
  have hperm : (verifyAddrs len).Perm (([7, 8, 9, 10] ++ [0, 1, 2, 3, 4, 5, 6]) ++ payloadAddrs len) :=
    List.perm_append_comm
  exact hperm.nodup_iff.2 (nodup_append_payloadAddrs hlen (by decide) (by decide))

end Addresses

/-! ### PKT_SEAL and PKT_CHECK, an equation per case (R145, R146) -/

/-- The length a reading of PBUF declares in bytes 5 and 6 (R140). -/
def declaredLen (v : Nat → Byte) : Nat := (v 5).toNat * 256 + (v 6).toNat

/-- The checksum of the bytes a frame of length `len` covers (R142), for a reading of PBUF. -/
def coveredCrc (len : Nat) (v : Nat → Byte) : Word :=
  crc32 ((List.range 7).map v ++ (List.range len).map fun j => v (11 + j))

section Equations

variable {α : Type} {v w : Nat → Byte} {len : Nat} {m : Word} {s : State α}

theorem ReadsAs.readBE_length (h : ReadsAs v lengthAddrs s) : readBE (memReads lengthAddrs s).1 = declaredLen v := by
  rw [h]
  simp [lengthAddrs, readBE, declaredLen]

theorem ReadsAs.payload (h : ReadsAs v (payloadAddrs len) s) (hlen : len ≤ 245) :
    (memReads (payloadAddrs len) s).1 = (List.range len).map fun j => v (11 + j) := by
  rw [h, map_payloadAddrs v hlen]

theorem runPktSeal_too_large (hreads : ReadsAs v lengthAddrs s) (hlen : declaredLen v > 245) :
    runPktSeal s = .next (respond .payloadTooLarge .none (memReads lengthAddrs s).2) := by
  rw [← hreads.readBE_length] at hlen
  exact if_pos hlen

theorem runPktSeal_seals (hreads : ReadsAs v (sealAddrs (declaredLen v)) s) (hlen : declaredLen v ≤ 245) :
    runPktSeal s = .next (respond .ok (.u32 (coveredCrc (declaredLen v) v))
      (recordPacket (declaredLen v) (coveredCrc (declaredLen v) v)
        (memWrites 7 (be32 (coveredCrc (declaredLen v) v)) (memReads (sealAddrs (declaredLen v)) s).2))) := by
  obtain ⟨hlength, hrest⟩ := readsAs_append_iff.1 hreads
  obtain ⟨hhead, hbody⟩ := readsAs_append_iff.1 hrest
  have hcrc : crc32 ((memReads [0, 1, 2, 3, 4] (memReads lengthAddrs s).2).1 ++ (memReads lengthAddrs s).1 ++
      (memReads (payloadAddrs (declaredLen v)) (memReads [0, 1, 2, 3, 4] (memReads lengthAddrs s).2).2).1) =
      coveredCrc (declaredLen v) v := by
    rw [hbody.payload hlen, hhead, hlength]
    rfl
  have hfits : ¬ declaredLen v > Config.maxPayload := Nat.not_lt.2 hlen
  simp only [runPktSeal, hlength.readBE_length, if_neg hfits, sealFrame, hcrc, answer, sealAddrs, memReads_append]

theorem runPktCheck_oversized (h : m.toNat > 256) : runPktCheck m s = .next (respond .errArg .none s) :=
  if_pos h

theorem runPktCheck_short (h : m.toNat < 11) : runPktCheck m s = .next (respond .framingError .none s) := by
  have hle : ¬ m.toNat > Config.pbufSize := by simp only [Config.pbufSize]; omega
  rw [runPktCheck, if_neg hle]
  exact if_pos h

/-- A frame of 11 to 256 bytes is judged by the length it declares. -/
theorem runPktCheck_of_readsAs (hreads : ReadsAs v lengthAddrs s) (hmin : 11 ≤ m.toNat) (hmax : m.toNat ≤ 256) :
    runPktCheck m s =
      if declaredLen v > m.toNat - 11 then .next (respond .framingError .none (memReads lengthAddrs s).2)
      else verifyFrame (declaredLen v) (memReads lengthAddrs s).2 := by
  have hle : ¬ m.toNat > Config.pbufSize := Nat.not_lt.2 hmax
  have hge : ¬ m.toNat < Config.headerLen := Nat.not_lt.2 hmin
  simp only [runPktCheck, if_neg hle, if_neg hge, hreads.readBE_length]
  rfl

theorem verifyFrame_of_readsAs (hreads : ReadsAs w (verifyAddrs len) s) (hlen : len ≤ 245) :
    verifyFrame len s = .next
      (respond (if (coveredCrc len w).toNat = readBE [w 7, w 8, w 9, w 10] then .ok else .integrityError)
        (.u32 (coveredCrc len w)) (recordPacket len (coveredCrc len w) (memReads (verifyAddrs len) s).2)) := by
  obtain ⟨hcov, hsum⟩ := readsAs_append_iff.1 hreads
  have hcrc : crc32 (memReads ([0, 1, 2, 3, 4, 5, 6] ++ payloadAddrs len) s).1 = coveredCrc len w := by
    rw [hcov, List.map_append, map_payloadAddrs w hlen]
    rfl
  have hstored : (memReads checksumAddrs (memReads ([0, 1, 2, 3, 4, 5, 6] ++ payloadAddrs len) s).2).1 =
      [w 7, w 8, w 9, w 10] := hsum
  simp only [verifyFrame, hcrc, hstored, answer, verifyAddrs, memReads_append _ checksumAddrs]
  split
  · rfl
  · rfl

end Equations

/-! ### The statements -/

/-- Settles O15: the write stores the byte at its address (`Memory.find_store`). -/
theorem bufWrWritesOneByte : Obligations.BufWrWritesOneByte :=
  ⟨fun a b => encodedAs_encode (.bufWr a b), fun _ _ _ => ⟨_, rfl, fun _ => Memory.find_store _ _ _ _⟩⟩

/-- Settles O16: the two cases of a one-byte read, the byte written or not. -/
theorem bufRdReadsOneByte : Obligations.BufRdReadsOneByte := by
  refine ⟨fun a => encodedAs_encode (.bufRd a), fun a s => ⟨fun v hv => ?_, fun hnone => ⟨Config.draw s.draws a, ?_⟩⟩⟩
  · show runBufRd a s = _
    rw [runBufRd, memRead_written hv, answer_next]
  · show runBufRd a s = _
    rw [runBufRd, memRead_unwritten hnone, answer_next]

/-- Settles O17: the length field's bytes are read first. Where they declare too much, they alone are read; otherwise
PKT_SEAL meets each byte once (`nodup_sealAddrs`), so that all it reads is one possible reading. -/
theorem pktSealSealsWhatItReads : Obligations.PktSealSealsWhatItReads := by
  refine ⟨encodedAs_encode .pktSeal, fun s => ?_⟩
  by_cases hlarge : readBE (memReads lengthAddrs s).1 > 245
  · obtain ⟨v, hv, hreads⟩ := exists_possibleReading_readsAs (as := lengthAddrs) (by decide) s
    obtain ⟨n, hn⟩ := exists_memReads_eq lengthAddrs s
    rw [hreads.readBE_length] at hlarge
    refine ⟨v, n, hv, ?_⟩
    intro len c
    rw [if_pos (show len > 245 from hlarge), ← hn]
    exact runPktSeal_too_large hreads hlarge
  · have hlen := Nat.not_lt.1 hlarge
    obtain ⟨v, hv, hreads⟩ := exists_possibleReading_readsAs (nodup_sealAddrs hlen) s
    rw [(readsAs_append_iff.1 hreads).1.readBE_length] at hlen hreads
    obtain ⟨n, hn⟩ := exists_memReads_eq (sealAddrs (declaredLen v)) s
    have hseals := runPktSeal_seals hreads hlen
    rw [hn, memWrites_state] at hseals
    refine ⟨v, n, hv, ?_⟩
    intro len c
    rw [if_neg (show ¬ len > 245 from Nat.not_lt.2 hlen)]
    exact ⟨_, hseals, memWrites_checksum_find c _⟩

/-- Settles O19: the length field is read once for the check of the declared length, giving the reading `v`, and the
covered bytes and the stored checksum after it, each once, giving the reading `w`. -/
theorem pktCheckVerifiesWhatItReads : Obligations.PktCheckVerifiesWhatItReads := by
  refine ⟨fun m => encodedAs_encode (.pktCheck m), fun s m => ⟨runPktCheck_oversized, runPktCheck_short,
    fun hmin hmax => ?_⟩⟩
  obtain ⟨v, hv, hlength⟩ := exists_possibleReading_readsAs (as := lengthAddrs) (by decide) s
  have hcheck := runPktCheck_of_readsAs hlength hmin hmax
  by_cases hlong : declaredLen v > m.toNat - 11
  · obtain ⟨n, hn⟩ := exists_memReads_eq lengthAddrs s
    rw [if_pos hlong, hn] at hcheck
    refine ⟨v, v, n, hv, hv, ?_⟩
    intro len c
    rw [if_pos (show len > m.toNat - 11 from hlong)]
    exact hcheck
  · have hlen : declaredLen v ≤ 245 := by omega
    obtain ⟨w, hw, hreads⟩ := exists_possibleReading_readsAs (nodup_verifyAddrs hlen) (memReads lengthAddrs s).2
    obtain ⟨n, hn⟩ := exists_memReads_eq (lengthAddrs ++ verifyAddrs (declaredLen v)) s
    rw [memReads_append] at hn
    rw [if_neg hlong, verifyFrame_of_readsAs hreads hlen, hn] at hcheck
    refine ⟨v, w, n, hv, possibleReading_memReads_iff.1 hw, ?_⟩
    intro len c
    rw [if_neg (show ¬ len > m.toNat - 11 from hlong)]
    exact hcheck

end Sys2Proof.Machine
end

section
/-! PROOFS. MOD_START, MOD_BYTE and MOD_END: the samples that a sequence of bits sends, by their global indices
(R172 to R174), and the statements about the three commands (R175 to R177). -/

namespace Sys2Proof.Machine

/-! ### The samples of a sequence of bits -/

section Samples

variable {α : Type} (N : Numerics α)

/-- SPB samples of each bit in order, from frame index `n` on: sample `j` belongs to bit `j` div SPB (R174). -/
def windowSamples (c : Cfg) (vs : List Bool) (n : Nat) : List α :=
  (List.range (vs.length * spb c)).map fun j => toneSample N c (vs.getD (j / spb c) false) (n + j)

/-- The first bit's SPB samples (R173), and the other bits' from SPB indices later on. -/
theorem windowSamples_cons (c : Cfg) (v : Bool) (vs : List Bool) (n : Nat) :
    windowSamples N c (v :: vs) n = bitSamples N c v n ++ windowSamples N c vs (n + spb c) := by
  rw [windowSamples, List.length_cons, Nat.succ_mul, Nat.add_comm, List.range_add, List.map_append, List.map_map]
  congr 1
  · refine List.map_congr_left fun j hj => ?_
    rw [Nat.div_eq_of_lt (List.mem_range.1 hj), List.getD_cons_zero]
  · refine List.map_congr_left fun j hj => ?_
    have hpos : 0 < spb c := Nat.pos_of_mul_pos_left (Nat.zero_lt_of_lt (List.mem_range.1 hj))
    rw [Function.comp_apply, Nat.add_div_left j hpos, List.getD_cons_succ, Nat.add_assoc]

/-- The samples with the bits given by their places. -/
theorem windowSamples_of_getD (c : Cfg) {vs : List Bool} {bit : Nat → Bool} (n : Nat)
    (hbit : ∀ i < vs.length, vs.getD i false = bit i) :
    windowSamples N c vs n =
      (List.range (vs.length * spb c)).map fun j => toneSample N c (bit (j / spb c)) (n + j) := by
  refine List.map_congr_left fun j hj => ?_
  rw [hbit _ (Nat.div_lt_of_lt_mul (Nat.mul_comm .. ▸ List.mem_range.1 hj))]

/-- `sendBits` emits the bits' samples from MOD_N on, wherever MOD_N does not pass its width (R34, R175). -/
theorem sendBits_txlog (vs : List Bool) (s : State α) (h : s.modN.toNat + vs.length * spb s.cfg < 2 ^ 32) :
    (sendBits N vs s).txlog = s.txlog ++ windowSamples N s.cfg vs s.modN.toNat := by
  induction vs generalizing s with
  | nil => simp [sendBits, windowSamples]
  | cons v vs ih =>
    rw [List.length_cons, Nat.succ_mul] at h
    have hmodN : (sendBit N v s).modN.toNat = s.modN.toNat + spb s.cfg := by
      rw [sendBit_modN, BitVec.toNat_add, BitVec.toNat_ofNat, Nat.add_mod_mod]
      exact Nat.mod_eq_of_lt (by omega)
    have hrest := ih (sendBit N v s) (by rw [hmodN, sendBit_cfg]; omega)
    rw [hmodN, sendBit_cfg, sendBit_txlog] at hrest
    rw [sendBits, hrest, windowSamples_cons, List.append_assoc]

/-- All that `sendBits` does, wherever MOD_N does not pass its width. -/
theorem sendBits_eq (vs : List Bool) (s : State α) (h : s.modN.toNat + vs.length * spb s.cfg < 2 ^ 32) :
    sendBits N vs s =
      { s with
        modN := BitVec.ofNat 32 (s.modN.toNat + vs.length * spb s.cfg)
        txlog := s.txlog ++ windowSamples N s.cfg vs s.modN.toNat } := by
  rw [sendBits_state, sendBits_txlog N vs s h, sendBits_modN, BitVec.ofNat_add, BitVec.ofNat_toNat,
    BitVec.setWidth_eq]

end Samples

/-! ### The bits by their places (R9, R171) -/

theorem preamble_getD {i : Nat} (hi : i < preamble.length) : preamble.getD i false = decide (i % 2 = 0) := by
  rw [List.getD_eq_getElem _ _ hi]
  simp [preamble, beq_eq_decide]

theorem bitsMSB_getD (b : Byte) {i : Nat} (hi : i < (bitsMSB b).length) :
    (bitsMSB b).getD i false = b.getLsbD (7 - i) := by
  rw [bitsMSB_length] at hi
  interval_cases i <;> rfl

/-! ### The preamble at the start of a frame (R175) -/

/-- The preamble's windows never pass MOD_N's width: SPB is at most SPB_MAX (R29, R30). -/
theorem preamble_fits (c : Cfg) : 16 * spb c < 2 ^ 32 :=
  calc 16 * spb c
    _ ≤ 16 * Config.spbMax := Nat.mul_le_mul_left 16 (spb_le c)
    _ < 2 ^ 32 := by decide

/-- What MOD_START sends into a frame that it has just opened, MOD_N being 0 (R175). -/
theorem sendBits_preamble {α : Type} (N : Numerics α) (s : State α) :
    sendBits N preamble { s with modN := 0, modActive := true } =
      { s with
        modActive := true
        modN := BitVec.ofNat 32 (16 * spb s.cfg)
        txlog := s.txlog ++ windowSamples N s.cfg preamble 0 } := by
  have hfits : 0 + preamble.length * spb s.cfg < 2 ^ 32 := by
    rw [Nat.zero_add, preamble_length]
    exact preamble_fits s.cfg
  rw [sendBits_eq N preamble { s with modN := 0, modActive := true } hfits, preamble_length]
  simp [State.cfg]

/-! ### The statements -/

/-- Settles O25: the preamble's bits are sent from index 0 on, and its windows fit MOD_N; a legal configuration's SPB is
the quotient of the rates (R30). -/
theorem modStartSendsThePreamble : Obligations.ModStartSendsThePreamble := by
  refine ⟨encodedAs_encode .modStart, fun s => ?_⟩
  intro n
  refine ⟨runModStart_open _, runModStart_illegal _, fun hclosed hlegal => ?_⟩
  have hspb : spb s.cfg = n := if_pos hlegal
  have hsamples := windowSamples_of_getD Config.num s.cfg 0 fun _ => preamble_getD
  have hsend := sendBits_preamble Config.num s
  simp only [preamble_length, hspb, toneSample, Cfg.freq, decide_eq_true_eq, Nat.zero_add] at hsamples
  rw [hsamples, hspb] at hsend
  exact hsend ▸ runModStart_legal _ hclosed hlegal

/-- Settles O26: the check of the overflow, exact in ℕ, is what keeps MOD_N in its width while the eight windows are
sent. -/
theorem modByteSendsTheByte : Obligations.ModByteSendsTheByte := by
  refine ⟨fun b => encodedAs_encode (.modByte b), fun b s => ?_⟩
  intro n
  refine ⟨runModByte_closed _ b, runModByte_overflow _ b, fun hopen hfits => ?_⟩
  have hsend := sendBits_eq Config.num (bitsMSB b) s (Nat.lt_succ_of_le hfits)
  rw [windowSamples_of_getD _ _ _ fun _ => bitsMSB_getD b] at hsend
  refine (runModByte_sends _ b hopen hfits).trans ?_
  rw [hsend]
  rfl

/-- Settles O27: MOD_END's one encoding and its two cases, a frame open or not. -/
theorem modEndClosesTheFrame : Obligations.ModEndClosesTheFrame :=
  ⟨encodedAs_encode .modEnd, fun _ => ⟨runModEnd_closed, runModEnd_open⟩⟩

end Sys2Proof.Machine
end

section
/-! PROOFS. DEM_START, DEM_SAMPLE and DEM_END: what the end of a window writes, as one record, and the statements about
the three commands (R197 to R199). -/

namespace Sys2Proof.Machine

/-! ### The end of a window (R198) -/

section Window

variable {α : Type}

/-- The byte's three fields are all that a decided bit writes beside DEM_LASTBIT (R37, R198). -/
theorem shiftInBit_eq (v : Bool) (s : State α) : shiftInBit v s =
    { s with
      demLastbit := BitVec.ofBool v
      demBsr := if s.demBcnt = 7 then 0 else (s.demBsr <<< 1) ||| (BitVec.ofBool v).setWidth 8
      demBcnt := if s.demBcnt = 7 then 0 else s.demBcnt + 1
      rxlog := if s.demBcnt = 7 then s.rxlog ++ [(s.demBsr <<< 1) ||| (BitVec.ofBool v).setWidth 8]
        else s.rxlog } := by
  by_cases hfull : s.demBcnt = 7
  · simp only [shiftInBit, if_pos hfull, emitRX]
  · simp only [shiftInBit, if_neg hfull]

/-- All that the end of a window writes: the powers of the filters as they stand, the bit that the powers decide, and
the filters and DEM_WCNT from zero (R43, R195, R198). -/
theorem closeWindow_eq (N : Numerics α) (s : State α) : closeWindow N s =
    { shiftInBit (N.gt (power N s.s1_1 s.s2_1 (coeff N s.cfg true)) (power N s.s1_0 s.s2_0 (coeff N s.cfg false)))
        s with
      s1_0 := N.zero, s2_0 := N.zero, s1_1 := N.zero, s2_1 := N.zero, demWcnt := 0
      power0 := power N s.s1_0 s.s2_0 (coeff N s.cfg false)
      power1 := power N s.s1_1 s.s2_1 (coeff N s.cfg true) } := by
  simp only [closeWindow, shiftInBit_eq]
  rfl

end Window

/-- A decided bit as the number 0 or 1, at any width (R9). -/
theorem setWidth_ofBool (w : Nat) (v : Bool) : (BitVec.ofBool v).setWidth w = if v then 1 else 0 := by
  cases v with
  | false => exact BitVec.setWidth_zero w 1
  | true => exact BitVec.eq_of_toNat_eq (by simp)

/-! ### The statements -/

/-- Settles O31: a legal configuration's SPB is the quotient of the rates (R30), so the preamble's length is 16 of it. -/
theorem demStartOpensTheFrame : Obligations.DemStartOpensTheFrame := by
  refine ⟨encodedAs_encode .demStart, fun s => ⟨runDemStart_open _, runDemStart_illegal _, fun hclosed hlegal => ?_⟩⟩
  have hspb : spb s.cfg = s.sampleRate.toNat / s.bitRate.toNat := if_pos hlegal
  have hexec := runDemStart_legal Config.num hclosed hlegal
  rw [preambleSamples, hspb] at hexec
  exact hexec

/-- Settles O32: past the preamble the count, which does not wrap below 2^32 - 1, says whether the window is complete;
at its end the powers and the bit are those of the filters that have just taken the sample. -/
theorem demSampleTakesOneSample : Obligations.DemSampleTakesOneSample := by
  refine ⟨fun x => encodedAs_encode (.demSample x), fun x s =>
    ⟨runDemSample_closed _ x, runDemSample_skips _ x, fun hopen hskip hlt => ?_⟩⟩
  intro N k0 k1 a0 a1 p0 p1 v bsr
  have hcount := toNat_succ_of_lt hlt
  by_cases hfull : s.demWcnt.toNat + 1 = spb s.cfg
  · have hbsr : (s.demBsr <<< 1) ||| (BitVec.ofBool v).setWidth 8 = bsr := by rw [setWidth_ofBool]
    have hlastbit : BitVec.ofBool v = if v then 1 else 0 := (BitVec.setWidth_eq _).symm.trans (setWidth_ofBool 1 v)
    rw [if_neg (not_not.2 hfull), ← hbsr, ← hlastbit]
    refine (runDemSample_completes N x hopen hskip (hcount.trans hfull)).trans ?_
    rw [closeWindow_eq, shiftInBit_eq]
    rfl
  · rw [if_pos hfull]
    exact runDemSample_feeds N x hopen hskip (hcount ▸ hfull)

/-- Settles O33: DEM_END's one encoding and its two cases, a frame open or not. -/
theorem demEndClosesTheFrame : Obligations.DemEndClosesTheFrame :=
  ⟨encodedAs_encode .demEnd, fun _ => ⟨runDemEnd_closed _, runDemEnd_open _⟩⟩

end Sys2Proof.Machine
end

section
/-! PROOFS. What every command answers, in every state: one code with its data, in one of three classes, and the state
that it answers from (R220 to R222). -/

namespace Sys2Proof.Machine

/-! ### The classes of the response codes (R86, R220) -/

theorem respCodeClass_eq_success_iff (c : RespCode) : respCodeClass c = .success ↔ c = .ok := by
  cases c <;> decide

theorem respCodeClass_eq_verdict_iff (c : RespCode) : respCodeClass c = .verdict ↔
    c = .payloadTooLarge ∨ c = .framingError ∨ c = .integrityError := by
  cases c <;> decide

theorem respCodeClass_eq_error_iff (c : RespCode) : respCodeClass c = .error ↔
    c = .errIllegal ∨ c = .errArg ∨ c = .errState ∨ c = .errBusy ∨ c = .errConfig ∨ c = .errOverflow := by
  cases c <;> decide

/-! ### What a command leaves of its exchange with the host -/

/-- The responses given and the transactions still waiting are the same (R48). -/
def SameExchange {α : Type} (s u : State α) : Prop := u.responses = s.responses ∧ u.port = s.port

theorem sameExchange_memRead {α : Type} (a : Byte) (s : State α) : SameExchange s (memRead a s).2 := by
  rw [memRead_state]
  exact ⟨rfl, rfl⟩

theorem SameExchange.sendBits {α : Type} {s u : State α} (h : SameExchange s u) (N : Numerics α) (vs : List Bool) :
    SameExchange s (sendBits N vs u) := by
  rw [sendBits_state]
  exact h

theorem sameExchange_writeReg {α : Type} (reg : IntReg) (v : Word) (s : State α) : SameExchange s (writeReg reg v s) :=
  ⟨writeReg_responses s reg v, writeReg_port s reg v⟩

theorem SameExchange.closeWindow {α : Type} {s u : State α} (h : SameExchange s u) (N : Numerics α) :
    SameExchange s (closeWindow N u) := by
  simpa only [SameExchange, closeWindow_responses, closeWindow_port] using h

/-! ### The answers -/

/-- How a command taken in state `s` can end: with this code and this data, in the last state but for the response. It
completes; or it fails in `s` itself (R222); or it ends in a verdict, which writes what its rule states (R126, R145,
R146) and, of the model's own fields, the count of draws (log 4). -/
inductive Answer (s : State) : Instr → RespCode → DataLane → State → Prop where
  | completes {i : Instr} {d : DataLane} {u : State} (hkind : d.kind = i.mnemonic.laneOut) (hsame : SameExchange s u) :
      Answer s i .ok d u
  | fails {i : Instr} {c : RespCode} (hclass : respCodeClass c = .error) : Answer s i c .none s
  | tooLarge (n : Nat) : Answer s .pktSeal .payloadTooLarge .none { s with draws := n }
  | misframed (m : Word) (n : Nat) : Answer s (.pktCheck m) .framingError .none { s with draws := n }
  | crcMismatch (e : Word) : Answer s (.crcCheck e) .integrityError (.u32 (readReg .crcResult s)) s
  | checksumMismatch (m : Word) (len : BitVec 16) (c : Word) (n : Nat) :
      Answer s (.pktCheck m) .integrityError (.u32 c) { s with pktLen := len, pktCalc := c, draws := n }

/-- The command ends with exactly one response, in one of the ways of `Answer`. -/
def Answers (i : Instr) (s : State) : Prop := ∃ c d u, exec i s = .next (respond c d u) ∧ Answer s i c d u

section Commands

variable {i : Instr} {c : RespCode} {d : DataLane} {s u : State}

theorem answers_of_completes (h : exec i s = .next (respond .ok d u)) (hkind : d.kind = i.mnemonic.laneOut)
    (hsame : SameExchange s u) : Answers i s :=
  ⟨_, _, _, h, .completes hkind hsame⟩

theorem answers_of_fails (h : exec i s = .next (respond c .none s)) (hclass : respCodeClass c = .error) : Answers i s :=
  ⟨_, _, _, h, .fails hclass⟩

theorem regRd_answers (r : Byte) (s : State) : Answers (.regRd r) s := by
  cases hreg : IntReg.ofNum r with
  | none => exact answers_of_fails (runRegRd_undefined hreg) rfl
  | some reg => exact answers_of_completes (runRegRd_defined reg hreg) rfl ⟨rfl, rfl⟩

theorem regWr_answers (r : Byte) (v : Word) (s : State) : Answers (.regWr r v) s := by
  cases hreg : IntReg.ofNum r with
  | none => exact answers_of_fails (runRegWr_undefined v hreg) rfl
  | some reg =>
    cases hacc : reg.access with
    | ro => exact answers_of_fails (runRegWr_ro v hreg hacc) rfl
    | rw => exact answers_of_completes (runRegWr_rw v hreg hacc) rfl (sameExchange_writeReg reg v s)
    | cfg =>
      cases hopen : streamOpen s with
      | true => exact answers_of_fails (runRegWr_cfg_busy v hreg hacc hopen) rfl
      | false =>
        exact answers_of_completes (runRegWr_cfg_writes v hreg hacc hopen) rfl (sameExchange_writeReg reg v s)

theorem sregRd_answers (r : Byte) (s : State) : Answers (.sregRd r) s := by
  cases hreg : SampleReg.ofNum r with
  | none => exact answers_of_fails (runSregRd_undefined _ hreg) rfl
  | some reg => exact answers_of_completes (runSregRd_defined _ reg hreg) rfl ⟨rfl, rfl⟩

theorem crcCheck_answers (e : Word) (s : State) : Answers (.crcCheck e) s := by
  by_cases h : readReg .crcResult s = e
  · exact answers_of_completes (runCrcCheck_match h) rfl ⟨rfl, rfl⟩
  · exact ⟨_, _, _, runCrcCheck_mismatch h, .crcMismatch e⟩

/-- PKT_SEAL's two cases as R145 has them: the declared length fits a frame or not. -/
theorem pktSeal_answers (s : State) : Answers .pktSeal s := by
  obtain ⟨-, hseal⟩ := pktSealSealsWhatItReads
  obtain ⟨v, n, -, hexec⟩ := hseal s
  extract_lets len c at hexec
  split at hexec
  · exact ⟨_, _, _, hexec, .tooLarge n⟩
  · obtain ⟨m, hexec, -⟩ := hexec
    exact answers_of_completes hexec rfl ⟨rfl, rfl⟩

/-- PKT_CHECK's checks in R146's order: the number of bytes received, the declared length, the checksum. -/
theorem pktCheck_answers (m : Word) (s : State) : Answers (.pktCheck m) s := by
  by_cases hmax : m.toNat > 256
  · exact answers_of_fails (runPktCheck_oversized hmax) rfl
  by_cases hmin : m.toNat < 11
  · exact ⟨_, _, _, runPktCheck_short hmin, .misframed m s.draws⟩
  obtain ⟨-, hcheck⟩ := pktCheckVerifiesWhatItReads
  obtain ⟨-, -, hjudged⟩ := hcheck s m
  obtain ⟨v, w, n, -, -, hexec⟩ := hjudged (Nat.not_lt.1 hmin) (Nat.not_lt.1 hmax)
  extract_lets len c at hexec
  split at hexec
  · exact ⟨_, _, _, hexec, .misframed m n⟩
  · split at hexec
    · exact answers_of_completes hexec rfl ⟨rfl, rfl⟩
    · exact ⟨_, _, _, hexec, .checksumMismatch m _ _ n⟩

theorem modStart_answers (s : State) : Answers .modStart s := by
  cases hact : s.modActive with
  | true => exact answers_of_fails (runModStart_open _ hact) rfl
  | false =>
    cases hcfg : cfgLegal s.cfg with
    | false => exact answers_of_fails (runModStart_illegal _ hact hcfg) rfl
    | true =>
      have hopened : SameExchange s { s with modN := 0, modActive := true } := ⟨rfl, rfl⟩
      exact answers_of_completes (runModStart_legal _ hact hcfg) rfl (hopened.sendBits _ _)

theorem modByte_answers (b : Byte) (s : State) : Answers (.modByte b) s := by
  cases hact : s.modActive with
  | false => exact answers_of_fails (runModByte_closed _ b hact) rfl
  | true =>
    by_cases hn : s.modN.toNat + 8 * spb s.cfg ≤ 4294967295
    · have hsame : SameExchange s s := ⟨rfl, rfl⟩
      exact answers_of_completes (runModByte_sends _ b hact hn) rfl (hsame.sendBits _ _)
    · exact answers_of_fails (runModByte_overflow _ b hact (Nat.lt_of_not_le hn)) rfl

theorem modEnd_answers (s : State) : Answers .modEnd s := by
  cases hact : s.modActive with
  | false => exact answers_of_fails (runModEnd_closed hact) rfl
  | true => exact answers_of_completes (runModEnd_open hact) rfl ⟨rfl, rfl⟩

theorem demStart_answers (s : State) : Answers .demStart s := by
  cases hact : s.demActive with
  | true => exact answers_of_fails (runDemStart_open _ hact) rfl
  | false =>
    cases hcfg : cfgLegal s.cfg with
    | false => exact answers_of_fails (runDemStart_illegal _ hact hcfg) rfl
    | true => exact answers_of_completes (runDemStart_legal _ hact hcfg) rfl ⟨rfl, rfl⟩

theorem demSample_answers (x : Sample) (s : State) : Answers (.demSample x) s := by
  cases hact : s.demActive with
  | false => exact answers_of_fails (runDemSample_closed _ x hact) rfl
  | true =>
    have hfed : SameExchange s (feedFilters Config.num x s) := ⟨rfl, rfl⟩
    by_cases hskip : s.demSkip = 0
    · by_cases hwcnt : (s.demWcnt + 1).toNat = spb s.cfg
      · exact answers_of_completes (runDemSample_completes _ x hact hskip hwcnt) rfl (hfed.closeWindow _)
      · exact answers_of_completes (runDemSample_feeds _ x hact hskip hwcnt) rfl hfed
    · exact answers_of_completes (runDemSample_skips _ x hact hskip) rfl ⟨rfl, rfl⟩

theorem demEnd_answers (s : State) : Answers .demEnd s := by
  cases hact : s.demActive with
  | false => exact answers_of_fails (runDemEnd_closed _ hact) rfl
  | true => exact answers_of_completes (runDemEnd_open _ hact) rfl ⟨rfl, rfl⟩

end Commands

/-- Every command in every state answers as `Answer` says (R220). -/
theorem exec_answers (i : Instr) (s : State) : Answers i s := by
  cases i with
  | nop | reset | crcInit | crcByte _ | bufWr _ _ => exact answers_of_completes rfl rfl ⟨rfl, rfl⟩
  | regRd r => exact regRd_answers r s
  | regWr r v => exact regWr_answers r v s
  | sregRd r => exact sregRd_answers r s
  | crcCheck e => exact crcCheck_answers e s
  | bufRd a => exact answers_of_completes rfl rfl (sameExchange_memRead a s)
  | pktSeal => exact pktSeal_answers s
  | pktCheck m => exact pktCheck_answers m s
  | modStart => exact modStart_answers s
  | modByte b => exact modByte_answers b s
  | modEnd => exact modEnd_answers s
  | demStart => exact demStart_answers s
  | demSample x => exact demSample_answers x s
  | demEnd => exact demEnd_answers s

/-! ### What follows from an answer's case -/

section Cases

variable {i : Instr} {c : RespCode} {d : DataLane} {r : Response} {s t u : State}

theorem Answer.sameExchange (h : Answer s i c d u) : SameExchange s u := by
  cases h with
  | completes _ hsame => exact hsame
  | fails | tooLarge | misframed | crcMismatch | checksumMismatch => exact ⟨rfl, rfl⟩

/-- The answer behind the one response that a command adds. -/
theorem answer_of_exec (h : exec i s = .next t) (hr : t.responses = s.responses ++ [r]) :
    ∃ u, t = respond r.code r.data u ∧ Answer s i r.code r.data u := by
  obtain ⟨c, d, u, hexec, hans⟩ := exec_answers i s
  obtain rfl : respond c d u = t := by simpa [hexec] using h
  obtain ⟨hresp, -⟩ := hans.sameExchange
  obtain rfl : (⟨c, d⟩ : Response) = r := by simpa [hresp] using hr
  exact ⟨u, rfl, hans⟩

theorem Answer.kind_of_ok (h : Answer s i .ok d u) : d.kind = i.mnemonic.laneOut := by
  cases h with
  | completes hkind _ => exact hkind
  | fails hclass => cases hclass

theorem Answer.kind_of_integrityError (h : Answer s i .integrityError d u) : d.kind = .u32 := by
  cases h with
  | crcMismatch | checksumMismatch => rfl
  | fails hclass => cases hclass

theorem Answer.error_eq (h : Answer s i c d u) (hclass : respCodeClass c = .error) : d = .none ∧ u = s := by
  cases h with
  | fails => exact ⟨rfl, rfl⟩
  | completes | tooLarge | misframed | crcMismatch | checksumMismatch => cases hclass

/-- The two verdicts that refuse a frame by its lengths may have read PBUF, and write nothing (R145, R146). -/
theorem Answer.frame_refused_eq (h : Answer s i c d u) (hc : c = .payloadTooLarge ∨ c = .framingError) :
    d = .none ∧ ∃ n, u = { s with draws := n } := by
  cases h with
  | tooLarge n | misframed _ n => exact ⟨rfl, n, rfl⟩
  | fails hclass => rcases hc with rfl | rfl <;> cases hclass
  | completes | crcMismatch | checksumMismatch => simp at hc

theorem Answer.integrityError_cases (h : Answer s i .integrityError d u) :
    (∃ m c len n, i = .pktCheck m ∧ d = .u32 c ∧ u = { s with pktLen := len, pktCalc := c, draws := n }) ∨
      ((∃ e, i = .crcCheck e) ∧ u = s) := by
  cases h with
  | checksumMismatch m len c n => exact .inl ⟨m, c, len, n, rfl, rfl, rfl⟩
  | crcMismatch e => exact .inr ⟨⟨e, rfl⟩, rfl⟩
  | fails hclass => cases hclass

end Cases

/-! ### The statements -/

/-- Settles O43: the one response by the cases of `Answer`; the three classes split the codes. -/
theorem everyCommandAnswersOnce : Obligations.EveryCommandAnswersOnce := by
  intro i s
  obtain ⟨c, d, u, hexec, hans⟩ := exec_answers i s
  obtain ⟨hresp, hport⟩ := hans.sameExchange
  refine ⟨_, ⟨c, d⟩, hexec, by rw [respond_responses, hresp], hport, respCodeClass_eq_success_iff c,
    respCodeClass_eq_verdict_iff c, respCodeClass_eq_error_iff c, ?_, ?_, ?_⟩
  · rintro rfl
    exact hans.kind_of_ok
  · rintro rfl
    exact hans.kind_of_integrityError
  · rintro (hc | hc | hclass)
    · exact (hans.frame_refused_eq (.inl hc)).1
    · exact (hans.frame_refused_eq (.inr hc)).1
    · exact (hans.error_eq hclass).1

/-- Settles O45: the state that each error and each verdict answers from, by the cases of `Answer`. -/
theorem errorsArePrecise : Obligations.ErrorsArePrecise := by
  rintro i s t ⟨c, d⟩ h hr
  obtain ⟨u, rfl, hans⟩ := answer_of_exec h hr
  refine ⟨fun hclass => ?_, fun hc => ?_, ?_⟩
  · obtain ⟨rfl, rfl⟩ := hans.error_eq hclass
    exact ⟨rfl, rfl⟩
  · obtain ⟨-, n, rfl⟩ := hans.frame_refused_eq hc
    exact sameBlock_respond c d s
  · rintro rfl
    obtain ⟨m, c, len, n, rfl, rfl, rfl⟩ | ⟨hcheck, rfl⟩ := hans.integrityError_cases
    · obtain ⟨hcfg, hcrc, hmod, hdem, -, hpbuf⟩ := sameBlock_respond .integrityError (.u32 c) s
      exact ⟨hcfg, hcrc, hmod, hdem, hpbuf, .inl ⟨⟨m, rfl⟩, rfl⟩⟩
    · obtain ⟨hcfg, hcrc, hmod, hdem, hpkt, hpbuf⟩ := sameBlock_respond .integrityError d u
      exact ⟨hcfg, hcrc, hmod, hdem, hpbuf, .inr ⟨hcheck, hpkt⟩⟩

end Sys2Proof.Machine
end

section
/-! PROOFS. The reset table (R250, R251), and the configuration registers by their writers: RESET, and REG_WR while no
stream is open (R256). -/

namespace Sys2Proof.Machine

/-! ### The two resets (R250, R251) -/

/-- Power-on is RESET's column of R250 too: it differs from RESET only in the fields RESET leaves alone. -/
theorem resetRegisters_reset : resetRegisters Config.num State.reset = State.reset := rfl

theorem exec_reset (s : State) : exec .reset s = .next (respond .ok .none (resetRegisters Config.num s)) := rfl

/-- After either reset the registers are RESET's, whatever the responses given. -/
theorem exists_eq_resetRegisters {t : State} (h : t = State.reset ∨ ∃ s, exec .reset s = .next t) :
    ∃ s r, t = { resetRegisters Config.num s with responses := r } := by
  rcases h with rfl | ⟨s, hexec⟩
  · exact ⟨State.reset, [], resetRegisters_reset.symm⟩
  · obtain rfl : respond .ok .none (resetRegisters Config.num s) = t := by simpa [exec_reset] using hexec
    exact ⟨s, s.responses ++ [⟨.ok, .none⟩], rfl⟩

/-! ### The commands that leave the configuration alone -/

section Config

variable {i : Instr} {c : RespCode} {d : DataLane} {s t u : State}

theorem SameConfig.trans (h : SameConfig s t) (h' : SameConfig t u) : SameConfig s u := Eq.trans h' h

theorem sameConfig_respond (c : RespCode) (d : DataLane) (s : State) : SameConfig s (respond c d s) := respond_cfg s c d

theorem PacketWrites.sameConfig (h : PacketWrites s t) : SameConfig s t := by
  obtain ⟨m, n, l, c, r, rfl⟩ := h
  rfl

/-- The command goes on to a next state with the same configuration. -/
def KeepsConfig (i : Instr) (s : State) : Prop := ∃ t, exec i s = .next t ∧ SameConfig s t

theorem KeepsConfig.sameConfig (h : KeepsConfig i s) (hexec : exec i s = .next t) : SameConfig s t := by
  obtain ⟨u, hu, hsame⟩ := h
  obtain rfl : u = t := by simpa [hu] using hexec
  exact hsame

theorem keepsConfig_of_answers (h : exec i s = .next (respond c d u)) (hsame : SameConfig s u) : KeepsConfig i s :=
  ⟨_, h, hsame.trans (sameConfig_respond c d u)⟩

theorem keepsConfig_of_responds (h : ∃ c d, exec i s = .next (respond c d s)) : KeepsConfig i s := by
  obtain ⟨c, d, hexec⟩ := h
  exact keepsConfig_of_answers hexec rfl

theorem keepsConfig_of_packetWrites (h : ∃ t, exec i s = .next t ∧ PacketWrites s t) : KeepsConfig i s := by
  obtain ⟨t, hexec, hwrites⟩ := h
  exact ⟨t, hexec, hwrites.sameConfig⟩

theorem modStart_keepsConfig (s : State) : KeepsConfig .modStart s := by
  cases hact : s.modActive with
  | true => exact keepsConfig_of_answers (runModStart_open _ hact) rfl
  | false =>
    cases hcfg : cfgLegal s.cfg with
    | false => exact keepsConfig_of_answers (runModStart_illegal _ hact hcfg) rfl
    | true => exact keepsConfig_of_answers (runModStart_legal _ hact hcfg) (sendBits_cfg _ _ _)

theorem modByte_keepsConfig (b : Byte) (s : State) : KeepsConfig (.modByte b) s := by
  cases hact : s.modActive with
  | false => exact keepsConfig_of_answers (runModByte_closed _ b hact) rfl
  | true =>
    by_cases hn : s.modN.toNat + 8 * spb s.cfg ≤ 4294967295
    · exact keepsConfig_of_answers (runModByte_sends _ b hact hn) (sendBits_cfg _ _ _)
    · exact keepsConfig_of_answers (runModByte_overflow _ b hact (Nat.lt_of_not_le hn)) rfl

theorem modEnd_keepsConfig (s : State) : KeepsConfig .modEnd s := by
  cases hact : s.modActive with
  | false => exact keepsConfig_of_answers (runModEnd_closed hact) rfl
  | true => exact keepsConfig_of_answers (runModEnd_open hact) rfl

theorem demStart_keepsConfig (s : State) : KeepsConfig .demStart s := by
  cases hact : s.demActive with
  | true => exact keepsConfig_of_answers (runDemStart_open _ hact) rfl
  | false =>
    cases hcfg : cfgLegal s.cfg with
    | false => exact keepsConfig_of_answers (runDemStart_illegal _ hact hcfg) rfl
    | true => exact keepsConfig_of_answers (runDemStart_legal _ hact hcfg) rfl

theorem demSample_keepsConfig (x : Sample) (s : State) : KeepsConfig (.demSample x) s := by
  cases hact : s.demActive with
  | false => exact keepsConfig_of_answers (runDemSample_closed _ x hact) rfl
  | true =>
    by_cases hskip : s.demSkip = 0
    · by_cases hwcnt : (s.demWcnt + 1).toNat = spb s.cfg
      · exact keepsConfig_of_answers (runDemSample_completes _ x hact hskip hwcnt) (closeWindow_cfg _ _)
      · exact keepsConfig_of_answers (runDemSample_feeds _ x hact hskip hwcnt) (feedFilters_cfg _ _ x)
    · exact keepsConfig_of_answers (runDemSample_skips _ x hact hskip) rfl

theorem demEnd_keepsConfig (s : State) : KeepsConfig .demEnd s := by
  cases hact : s.demActive with
  | false => exact keepsConfig_of_answers (runDemEnd_closed _ hact) rfl
  | true => exact keepsConfig_of_answers (runDemEnd_open _ hact) rfl

/-! ### REG_WR while a stream is open (R256) -/

theorem exec_regWr_cfg_busy {r : Byte} (v : Word) (hopen : streamOpen s = true) (h1 : 1 ≤ r.toNat)
    (h4 : r.toNat ≤ 4) : exec (.regWr r v) s = .next (respond .errBusy .none s) := by
  obtain ⟨-, hregWr⟩ := regWrWritesOrRefuses
  obtain ⟨-, hbusy, -⟩ := hregWr s v
  exact hbusy (Bool.or_eq_true_iff.1 hopen) r h1 h4

/-- With a stream open REG_WR writes CRC_STATE or fails, by the register's number (R103). -/
theorem regWr_keepsConfig (r : Byte) (v : Word) (hopen : streamOpen s = true) : KeepsConfig (.regWr r v) s := by
  obtain ⟨-, hregWr⟩ := regWrWritesOrRefuses
  obtain ⟨-, -, hcrc, hargs⟩ := hregWr s v
  by_cases hcfg : 1 ≤ r.toNat ∧ r.toNat ≤ 4
  · obtain ⟨h1, h4⟩ := hcfg
    exact keepsConfig_of_answers (exec_regWr_cfg_busy v hopen h1 h4) rfl
  · by_cases h8 : r.toNat = 8
    · obtain rfl : r = 0x08 := BitVec.eq_of_toNat_eq h8
      exact keepsConfig_of_answers hcrc rfl
    · exact keepsConfig_of_answers (hargs r (by omega) h8) rfl

/-- With a stream open every command but RESET leaves the configuration registers as they are. -/
theorem exec_keepsConfig (hopen : streamOpen s = true) (hreset : i ≠ .reset) : KeepsConfig i s := by
  cases i with
  | reset => exact absurd rfl hreset
  | nop | crcInit | crcByte _ | bufWr _ _ => exact keepsConfig_of_answers rfl rfl
  | regRd r => exact keepsConfig_of_responds (runRegRd_responds r s)
  | regWr r v => exact regWr_keepsConfig r v hopen
  | sregRd r => exact keepsConfig_of_responds (runSregRd_responds Config.num r s)
  | crcCheck e => exact keepsConfig_of_responds (runCrcCheck_responds e s)
  | bufRd a => exact keepsConfig_of_answers rfl (packetWrites_memRead a s).sameConfig
  | pktSeal => exact keepsConfig_of_packetWrites (runPktSeal_packetWrites s)
  | pktCheck m => exact keepsConfig_of_packetWrites (runPktCheck_packetWrites m s)
  | modStart => exact modStart_keepsConfig s
  | modByte b => exact modByte_keepsConfig b s
  | modEnd => exact modEnd_keepsConfig s
  | demStart => exact demStart_keepsConfig s
  | demSample x => exact demSample_keepsConfig x s
  | demEnd => exact demEnd_keepsConfig s

end Config

/-! ### The statements -/

/-- Settles O47: the commands that keep the configuration, and REG_WR's ERR_BUSY case. -/
theorem configurationIsFrozenWhileAStreamIsOpen : Obligations.ConfigurationIsFrozenWhileAStreamIsOpen := by
  refine fun i s t hopen hexec => ⟨?_, ?_⟩
  · by_cases hreset : i = .reset
    · exact .inl hreset
    · exact .inr ((exec_keepsConfig hopen hreset).sameConfig hexec)
  · rintro r v rfl h1 h4
    obtain rfl : respond .errBusy .none s = t := by simpa [exec_regWr_cfg_busy v hopen h1 h4] using hexec
    exact lastResponse_respond .errBusy .none s

/-- Settles O1: the table read off `resetRegisters`, which is what either reset leaves. -/
theorem resetTableHolds : Obligations.ResetTableHolds := by
  refine ⟨encodedAs_encode .reset, fun t ht => ?_, ⟨Memory.find_nil, rfl, rfl⟩, fun s => ?_⟩
  · obtain ⟨s, r, rfl⟩ := exists_eq_resetRegisters ht
    simp [FiltersZero]
  · exact ⟨_, exec_reset s, rfl, rfl, rfl, rfl⟩

end Sys2Proof.Machine
end

section
/-! PROOFS. Everything that one command can write, as an exact next state for each of its outcomes; from it the frames
of the four families of commands (40_control.md to 44_detector.md), who writes a byte of PBUF (R72) and who writes
CRC_STATE (R32). -/

namespace Sys2Proof.Machine

/-- What the command `i` can write in state `s` when it answers the code `c`: it then answers from the last state. It
writes nothing, but for the draws that a read of PBUF takes (log 4); or it completes and writes what its rule states. -/
inductive Effect (s : State) : Instr → RespCode → State → Prop where
  | draws {i : Instr} {c : RespCode} (n : Nat) : Effect s i c { s with draws := n }
  | reset : Effect s .reset .ok (resetRegisters Config.num s)
  | regWr {r : Byte} {reg : IntReg} (v : Word) (hreg : IntReg.ofNum r = some reg)
      (hacc : reg.access = .rw ∨ reg.access = .cfg ∧ streamOpen s = false) :
      Effect s (.regWr r v) .ok (writeReg reg v s)
  | crcInit : Effect s .crcInit .ok { s with crcState := Config.crcInit }
  | crcByte (b : Byte) : Effect s (.crcByte b) .ok { s with crcState := crcStep s.crcState b }
  | bufWr (a b : Byte) : Effect s (.bufWr a b) .ok (memWrite a b s)
  | pktSeal (len n : Nat) (k : Word) (hlen : len ≤ 245) :
      Effect s .pktSeal .ok (recordPacket len k (memWrites 7 (be32 k) { s with draws := n }))
  | pktCheck {c : RespCode} (m : Word) (len n : Nat) (k : Word) (hlen : len ≤ 245) :
      Effect s (.pktCheck m) c (recordPacket len k { s with draws := n })
  | modStart (hact : s.modActive = false) (hcfg : cfgLegal s.cfg = true) :
      Effect s .modStart .ok (sendBits Config.num preamble { s with modN := 0, modActive := true })
  | modByte (b : Byte) (hact : s.modActive = true) (hn : s.modN.toNat + 8 * spb s.cfg ≤ 4294967295) :
      Effect s (.modByte b) .ok (sendBits Config.num (bitsMSB b) s)
  | modEnd (hact : s.modActive = true) : Effect s .modEnd .ok { s with modActive := false }
  | demStart (hact : s.demActive = false) (hcfg : cfgLegal s.cfg = true) :
      Effect s .demStart .ok { clearFilters Config.num s with
        demSkip := BitVec.ofNat 32 (preambleSamples s.cfg), demWcnt := 0, demBsr := 0, demBcnt := 0,
        demActive := true }
  | demSkips (x : Sample) (hact : s.demActive = true) (hskip : s.demSkip ≠ 0) :
      Effect s (.demSample x) .ok { s with demSkip := s.demSkip - 1 }
  | demFeeds (x : Sample) (hact : s.demActive = true) (hskip : s.demSkip = 0)
      (hwcnt : (s.demWcnt + 1).toNat ≠ spb s.cfg) :
      Effect s (.demSample x) .ok (feedFilters Config.num x s)
  | demCompletes (x : Sample) (hact : s.demActive = true) (hskip : s.demSkip = 0)
      (hwcnt : (s.demWcnt + 1).toNat = spb s.cfg) :
      Effect s (.demSample x) .ok (closeWindow Config.num (feedFilters Config.num x s))
  | demEnd (hact : s.demActive = true) :
      Effect s .demEnd .ok { clearFilters Config.num s with
        demSkip := 0, demWcnt := 0, demBsr := 0, demBcnt := 0, demActive := false }

/-- The command goes on to a next state, which is what an `Effect` leaves and one response more. -/
def HasEffect (i : Instr) (s : State) : Prop := ∃ c d u, exec i s = .next (respond c d u) ∧ Effect s i c u

/-! ### Each command has an effect -/

section Commands

variable {i : Instr} {s t : State}

theorem hasEffect_of_responds (h : ∃ c d, exec i s = .next (respond c d s)) : HasEffect i s := by
  obtain ⟨c, d, hexec⟩ := h
  exact ⟨c, d, s, hexec, .draws s.draws⟩

theorem regWr_hasEffect (r : Byte) (v : Word) (s : State) : HasEffect (.regWr r v) s := by
  cases hreg : IntReg.ofNum r with
  | none => exact hasEffect_of_responds ⟨_, _, runRegWr_undefined v hreg⟩
  | some reg =>
    cases hacc : reg.access with
    | ro => exact hasEffect_of_responds ⟨_, _, runRegWr_ro v hreg hacc⟩
    | rw => exact ⟨_, _, _, runRegWr_rw v hreg hacc, .regWr v hreg (.inl hacc)⟩
    | cfg =>
      cases hopen : streamOpen s with
      | true => exact hasEffect_of_responds ⟨_, _, runRegWr_cfg_busy v hreg hacc hopen⟩
      | false => exact ⟨_, _, _, runRegWr_cfg_writes v hreg hacc hopen, .regWr v hreg (.inr ⟨hacc, hopen⟩)⟩

theorem bufRd_hasEffect (a : Byte) (s : State) : HasEffect (.bufRd a) s :=
  ⟨.ok, .u32 ((memRead a s).1.setWidth 32), (memRead a s).2, rfl, (memRead_state a s).symm ▸ .draws _⟩

theorem pktSeal_hasEffect (s : State) : HasEffect .pktSeal s := by
  obtain ⟨n, hn⟩ := exists_memReads_eq lengthAddrs s
  by_cases hlarge : readBE (memReads lengthAddrs s).1 > 245
  · have hexec : exec .pktSeal s = .next (respond .payloadTooLarge .none (memReads lengthAddrs s).2) := if_pos hlarge
    exact ⟨_, _, _, hexec, hn ▸ .draws n⟩
  · have hexec : exec .pktSeal s = sealFrame (memReads lengthAddrs s).1 (memReads lengthAddrs s).2 := if_neg hlarge
    rw [sealFrame, memReads_state (payloadAddrs _), memReads_state [0, 1, 2, 3, 4], hn] at hexec
    exact ⟨_, _, _, hexec, .pktSeal _ _ _ (Nat.not_lt.1 hlarge)⟩

theorem verifyFrame_hasEffect {m : Word} {len n : Nat} (hlen : len ≤ 245)
    (h : exec (.pktCheck m) s = verifyFrame len { s with draws := n }) : HasEffect (.pktCheck m) s := by
  simp only [verifyFrame] at h
  rw [memReads_state checksumAddrs, memReads_state ([0, 1, 2, 3, 4, 5, 6] ++ _)] at h
  split at h
  · exact ⟨_, _, _, h, .pktCheck m _ _ _ hlen⟩
  · exact ⟨_, _, _, h, .pktCheck m _ _ _ hlen⟩

theorem pktCheck_hasEffect (m : Word) (s : State) : HasEffect (.pktCheck m) s := by
  by_cases hmax : m.toNat > 256
  · exact hasEffect_of_responds ⟨_, _, runPktCheck_oversized hmax⟩
  by_cases hmin : m.toNat < 11
  · exact hasEffect_of_responds ⟨_, _, runPktCheck_short hmin⟩
  obtain ⟨v, -, hreads⟩ := exists_possibleReading_readsAs (as := lengthAddrs) (by decide) s
  obtain ⟨n, hn⟩ := exists_memReads_eq lengthAddrs s
  have hexec := runPktCheck_of_readsAs hreads (Nat.not_lt.1 hmin) (Nat.not_lt.1 hmax)
  rw [hn] at hexec
  split at hexec
  · exact ⟨_, _, _, hexec, .draws n⟩
  · exact verifyFrame_hasEffect (by omega) hexec

theorem modStart_hasEffect (s : State) : HasEffect .modStart s := by
  cases hact : s.modActive with
  | true => exact hasEffect_of_responds ⟨_, _, runModStart_open _ hact⟩
  | false =>
    cases hcfg : cfgLegal s.cfg with
    | false => exact hasEffect_of_responds ⟨_, _, runModStart_illegal _ hact hcfg⟩
    | true => exact ⟨_, _, _, runModStart_legal _ hact hcfg, .modStart hact hcfg⟩

theorem modByte_hasEffect (b : Byte) (s : State) : HasEffect (.modByte b) s := by
  cases hact : s.modActive with
  | false => exact hasEffect_of_responds ⟨_, _, runModByte_closed _ b hact⟩
  | true =>
    by_cases hn : s.modN.toNat + 8 * spb s.cfg ≤ 4294967295
    · exact ⟨_, _, _, runModByte_sends _ b hact hn, .modByte b hact hn⟩
    · exact hasEffect_of_responds ⟨_, _, runModByte_overflow _ b hact (Nat.lt_of_not_le hn)⟩

theorem modEnd_hasEffect (s : State) : HasEffect .modEnd s := by
  cases hact : s.modActive with
  | false => exact hasEffect_of_responds ⟨_, _, runModEnd_closed hact⟩
  | true => exact ⟨_, _, _, runModEnd_open hact, .modEnd hact⟩

theorem demStart_hasEffect (s : State) : HasEffect .demStart s := by
  cases hact : s.demActive with
  | true => exact hasEffect_of_responds ⟨_, _, runDemStart_open _ hact⟩
  | false =>
    cases hcfg : cfgLegal s.cfg with
    | false => exact hasEffect_of_responds ⟨_, _, runDemStart_illegal _ hact hcfg⟩
    | true => exact ⟨_, _, _, runDemStart_legal _ hact hcfg, .demStart hact hcfg⟩

theorem demSample_hasEffect (x : Sample) (s : State) : HasEffect (.demSample x) s := by
  cases hact : s.demActive with
  | false => exact hasEffect_of_responds ⟨_, _, runDemSample_closed _ x hact⟩
  | true =>
    by_cases hskip : s.demSkip = 0
    · by_cases hwcnt : (s.demWcnt + 1).toNat = spb s.cfg
      · exact ⟨_, _, _, runDemSample_completes _ x hact hskip hwcnt, .demCompletes x hact hskip hwcnt⟩
      · exact ⟨_, _, _, runDemSample_feeds _ x hact hskip hwcnt, .demFeeds x hact hskip hwcnt⟩
    · exact ⟨_, _, _, runDemSample_skips _ x hact hskip, .demSkips x hact hskip⟩

theorem demEnd_hasEffect (s : State) : HasEffect .demEnd s := by
  cases hact : s.demActive with
  | false => exact hasEffect_of_responds ⟨_, _, runDemEnd_closed _ hact⟩
  | true => exact ⟨_, _, _, runDemEnd_open _ hact, .demEnd hact⟩

/-- Every command in every state has an effect: no command stops the block (R220, R224). -/
theorem exec_hasEffect (i : Instr) (s : State) : HasEffect i s := by
  cases i with
  | nop => exact hasEffect_of_responds ⟨_, _, rfl⟩
  | reset => exact ⟨_, _, _, rfl, .reset⟩
  | regRd r => exact hasEffect_of_responds (runRegRd_responds r s)
  | regWr r v => exact regWr_hasEffect r v s
  | sregRd r => exact hasEffect_of_responds (runSregRd_responds Config.num r s)
  | crcInit => exact ⟨_, _, _, rfl, .crcInit⟩
  | crcByte b => exact ⟨_, _, _, rfl, .crcByte b⟩
  | crcCheck e => exact hasEffect_of_responds (runCrcCheck_responds e s)
  | bufWr a b => exact ⟨_, _, _, rfl, .bufWr a b⟩
  | bufRd a => exact bufRd_hasEffect a s
  | pktSeal => exact pktSeal_hasEffect s
  | pktCheck m => exact pktCheck_hasEffect m s
  | modStart => exact modStart_hasEffect s
  | modByte b => exact modByte_hasEffect b s
  | modEnd => exact modEnd_hasEffect s
  | demStart => exact demStart_hasEffect s
  | demSample x => exact demSample_hasEffect x s
  | demEnd => exact demEnd_hasEffect s

/-- The effect behind a command's next state. -/
theorem effect_of_exec (h : exec i s = .next t) : ∃ c d u, t = respond c d u ∧ Effect s i c u := by
  obtain ⟨c, d, u, hexec, heff⟩ := exec_hasEffect i s
  obtain rfl : respond c d u = t := by simpa [hexec] using h
  exact ⟨c, d, u, rfl, heff⟩

end Commands

/-! ### The frames of the four families -/

section Frames

variable {i : Instr} {c : RespCode} {s u : State}

theorem sameBlock_draws (n : Nat) (s : State) : SameBlock s { s with draws := n } := by
  simp [SameBlock, SameConfig, SameCrc, SameModulator, SameDetector, SamePacket, SamePbuf, State.cfg]

/-- What the packet commands write is no part of the other units. -/
theorem PacketWrites.frame (h : PacketWrites s u) :
    SameConfig s u ∧ SameCrc s u ∧ SameModulator s u ∧ SameDetector s u := by
  obtain ⟨m, n, l, c, r, rfl⟩ := h
  simp [SameConfig, SameCrc, SameModulator, SameDetector, State.cfg]

theorem sendBits_frame (N : Numerics Sample) (vs : List Bool) (s : State) :
    SameConfig s (sendBits N vs s) ∧ SameCrc s (sendBits N vs s) ∧ SameDetector s (sendBits N vs s) ∧
      SamePacket s (sendBits N vs s) ∧ SamePbuf s (sendBits N vs s) := by
  rw [sendBits_state]
  simp [SameConfig, SameCrc, SameDetector, SamePacket, SamePbuf, State.cfg]

/-- A command of the CRC unit. -/
def IsCrcCommand (i : Instr) : Prop := i = .crcInit ∨ (∃ b, i = .crcByte b) ∨ ∃ e, i = .crcCheck e

/-- A command of the packet unit. -/
def IsPacketCommand (i : Instr) : Prop :=
  (∃ a b, i = .bufWr a b) ∨ (∃ a, i = .bufRd a) ∨ i = .pktSeal ∨ ∃ m, i = .pktCheck m

/-- A command of the modulator. -/
def IsModulatorCommand (i : Instr) : Prop := i = .modStart ∨ (∃ b, i = .modByte b) ∨ i = .modEnd

/-- A command of the detector. -/
def IsDetectorCommand (i : Instr) : Prop := i = .demStart ∨ (∃ x, i = .demSample x) ∨ i = .demEnd

theorem Effect.crc_frame (h : Effect s i c u) (hi : IsCrcCommand i) :
    SameConfig s u ∧ SameModulator s u ∧ SameDetector s u ∧ SamePacket s u ∧ SamePbuf s u := by
  cases h with
  | draws n =>
    obtain ⟨hcfg, -, hmod, hdem, hpkt, hpbuf⟩ := sameBlock_draws n s
    exact ⟨hcfg, hmod, hdem, hpkt, hpbuf⟩
  | crcInit | crcByte => simp [SameConfig, SameModulator, SameDetector, SamePacket, SamePbuf, State.cfg]
  | _ => simp [IsCrcCommand] at hi

theorem Effect.packet_frame (h : Effect s i c u) (hi : IsPacketCommand i) :
    SameConfig s u ∧ SameCrc s u ∧ SameModulator s u ∧ SameDetector s u := by
  cases h with
  | draws n =>
    obtain ⟨hcfg, hcrc, hmod, hdem, -⟩ := sameBlock_draws n s
    exact ⟨hcfg, hcrc, hmod, hdem⟩
  | bufWr a b => exact (packetWrites_memWrites a [b] s).frame
  | pktSeal len n k =>
    have hdraws : PacketWrites s { s with draws := n } := ⟨_, _, _, _, _, rfl⟩
    exact (hdraws.trans ((packetWrites_memWrites _ _ _).trans (packetWrites_recordPacket len k _))).frame
  | pktCheck m len n k =>
    have hdraws : PacketWrites s { s with draws := n } := ⟨_, _, _, _, _, rfl⟩
    exact (hdraws.trans (packetWrites_recordPacket len k _)).frame
  | _ => simp [IsPacketCommand] at hi

theorem Effect.modulator_frame (h : Effect s i c u) (hi : IsModulatorCommand i) :
    SameConfig s u ∧ SameCrc s u ∧ SameDetector s u ∧ SamePacket s u ∧ SamePbuf s u := by
  cases h with
  | draws n =>
    obtain ⟨hcfg, hcrc, -, hdem, hpkt, hpbuf⟩ := sameBlock_draws n s
    exact ⟨hcfg, hcrc, hdem, hpkt, hpbuf⟩
  | modStart => exact sendBits_frame _ _ { s with modN := 0, modActive := true }
  | modByte => exact sendBits_frame _ _ s
  | modEnd => simp [SameConfig, SameCrc, SameDetector, SamePacket, SamePbuf, State.cfg]
  | _ => simp [IsModulatorCommand] at hi

theorem Effect.detector_frame (h : Effect s i c u) (hi : IsDetectorCommand i) :
    SameConfig s u ∧ SameCrc s u ∧ SameModulator s u ∧ SamePacket s u ∧ SamePbuf s u := by
  cases h with
  | draws n =>
    obtain ⟨hcfg, hcrc, hmod, -, hpkt, hpbuf⟩ := sameBlock_draws n s
    exact ⟨hcfg, hcrc, hmod, hpkt, hpbuf⟩
  | demStart | demSkips | demFeeds | demCompletes | demEnd =>
    simp [SameConfig, SameCrc, SameModulator, SamePacket, SamePbuf, State.cfg]
  | _ => simp [IsDetectorCommand] at hi

end Frames

/-! ### Who writes a byte of PBUF, and who writes CRC_STATE -/

section Writers

variable {i : Instr} {c : RespCode} {s u : State}

/-- What BUF_WR stores is read back at its address, and every other byte stays (R143). -/
theorem memWrite_find (a b : Byte) (s : State) (x : Nat) :
    (memWrite a b s).pbuf.find x = if x = a.toNat then some b else s.pbuf.find x :=
  Memory.find_store _ _ _ _

/-- A completed PKT_SEAL writes bytes 7 to 10 and no other (R145). -/
theorem memWrites_checksum_find_of_ne (k : Word) (s : State) {a : Nat} (ha : a < 7 ∨ 10 < a) :
    (memWrites 7 (be32 k) s).pbuf.find a = s.pbuf.find a := by
  rw [memWrites_checksum_find, if_neg (by omega), if_neg (by omega), if_neg (by omega), if_neg (by omega)]

theorem memWrites_checksum_isSome (k : Word) (s : State) {a : Nat} (h7 : 7 ≤ a) (h10 : a ≤ 10) :
    ((memWrites 7 (be32 k) s).pbuf.find a).isSome = true := by
  rw [memWrites_checksum_find]
  split_ifs <;> first | rfl | omega

/-- A byte of PBUF after a command: the same, or the byte that BUF_WR names with its value, or one of bytes 7 to 10,
written, at a PKT_SEAL that answers OK. -/
theorem Effect.pbuf_writer (h : Effect s i c u) (a : Nat) :
    u.pbuf.find a = s.pbuf.find a ∨ (∃ x b, i = .bufWr x b ∧ a = x.toNat ∧ u.pbuf.find a = some b) ∨
      (i = .pktSeal ∧ c = .ok ∧ 7 ≤ a ∧ a ≤ 10 ∧ (u.pbuf.find a).isSome = true) := by
  cases h with
  | bufWr x b =>
    rw [memWrite_find]
    by_cases ha : a = x.toNat
    · exact .inr (.inl ⟨x, b, rfl, ha, if_pos ha⟩)
    · exact .inl (if_neg ha)
  | pktSeal len n k =>
    rw [recordPacket_pbuf]
    by_cases ha : a < 7 ∨ 10 < a
    · exact .inl (memWrites_checksum_find_of_ne k _ ha)
    · exact .inr (.inr ⟨rfl, rfl, by omega, by omega, memWrites_checksum_isSome k _ (by omega) (by omega)⟩)
  | modStart => exact .inl ((sendBits_frame _ _ _).2.2.2.2 a)
  | modByte => exact .inl ((sendBits_frame _ _ _).2.2.2.2 a)
  | _ => exact .inl (by simp)

theorem writeReg_crcState {reg : IntReg} (hreg : reg ≠ .crcState) (v : Word) (s : State) :
    (writeReg reg v s).crcState = s.crcState := by
  cases reg with
  | crcState => exact absurd rfl hreg
  | _ => rfl

theorem IntReg.ofNum_eq_crcState_iff {r : Byte} : IntReg.ofNum r = some .crcState ↔ r = 0x08 := by
  refine ⟨fun h => ?_, fun h => h ▸ rfl⟩
  unfold IntReg.ofNum at h
  split at h <;> cases h
  exact BitVec.eq_of_toNat_eq ‹r.toNat = _›

/-- Four commands alone change CRC_STATE (R32). -/
theorem Effect.crcState_writer (h : Effect s i c u) (hne : u.crcState ≠ s.crcState) :
    i = .crcInit ∨ i = .reset ∨ (∃ b, i = .crcByte b) ∨ ∃ v, i = .regWr 0x08 v := by
  cases h with
  | crcInit => exact .inl rfl
  | reset => exact .inr (.inl rfl)
  | crcByte b => exact .inr (.inr (.inl ⟨b, rfl⟩))
  | @regWr r reg v hreg _ =>
    obtain rfl : reg = .crcState := by_contra fun hn => hne (writeReg_crcState hn v s)
    obtain rfl := IntReg.ofNum_eq_crcState_iff.1 hreg
    exact .inr (.inr (.inr ⟨v, rfl⟩))
  | modStart => exact absurd (sendBits_frame _ _ _).2.1 hne
  | modByte => exact absurd (sendBits_frame _ _ _).2.1 hne
  | pktSeal len n k =>
    have hcrc : (memWrites 7 (be32 k) { s with draws := n }).crcState = s.crcState := by rw [memWrites_state]
    exact absurd hcrc hne
  | _ => exact absurd (by simp) hne

end Writers

/-! ### The statements -/

/-- Settles O49: the frame of each family by the cases of `Effect`; the response is no part of any unit. -/
theorem unitsLeaveEachOtherAlone : Obligations.UnitsLeaveEachOtherAlone := by
  intro i s t hexec
  obtain ⟨c, d, u, rfl, h⟩ := effect_of_exec hexec
  exact ⟨h.crc_frame, h.packet_frame, h.modulator_frame, h.detector_frame⟩

/-- Settles O24: the writers of a byte of PBUF by the cases of `Effect`; each of them leaves the byte written. -/
theorem writtenBytesStayWritten : Obligations.WrittenBytesStayWritten := by
  intro i s t a hexec
  obtain ⟨c, d, u, rfl, h⟩ := effect_of_exec hexec
  rw [respond_pbuf]
  rcases h.pbuf_writer a with hsame | ⟨x, b, hi, ha, hb⟩ | ⟨hi, rfl, h7, h10, hsome⟩
  · exact ⟨fun hs => hsame ▸ hs, fun hne => absurd hsame hne⟩
  · exact ⟨fun _ => by rw [hb, Option.isSome_some], fun _ => .inl ⟨x, b, hi, ha, hb⟩⟩
  · exact ⟨fun _ => hsome, fun _ => .inr ⟨hi, h7, h10, d, lastResponse_respond _ _ _⟩⟩

end Sys2Proof.Machine
end

section
/-! PROOFS. The invariant is kept by every command, unit by unit from the commands' effects, and so by every step; and
what one step does with the port (R20, R48). -/

namespace Sys2Proof.Machine

/-! ### Which parts of the state each part of the invariant reads -/

section Parts

variable {s t : State}

theorem SameModulator.modulatorOk (h : SameModulator s t) (hcfg : SameConfig s t) (hok : ModulatorOk s) :
    ModulatorOk t := by
  obtain ⟨hact, hmodN, -⟩ := h
  rw [ModulatorOk, hact, hmodN, hcfg]
  exact hok

theorem SameDetector.filtersZero_iff (h : SameDetector s t) : FiltersZero t ↔ FiltersZero s := by
  obtain ⟨-, -, -, -, -, -, h1, h2, h3, h4, -⟩ := h
  rw [FiltersZero, FiltersZero, h1, h2, h3, h4]

theorem SameDetector.detectorOk (h : SameDetector s t) (hcfg : SameConfig s t) (hok : DetectorOk s) :
    DetectorOk t := by
  have hzero := h.filtersZero_iff
  obtain ⟨hact, hskip, hwcnt, hbsr, hbcnt, -⟩ := h
  rw [DetectorOk, hact, hskip, hwcnt, hbsr, hbcnt, hcfg, hzero]
  exact hok

theorem SameDetector.detectorIdle (h : SameDetector s t) (hidle : DetectorIdle s) : DetectorIdle t := by
  have hzero := h.filtersZero_iff
  obtain ⟨hact, hskip, hwcnt, hbsr, hbcnt, -⟩ := h
  rw [DetectorIdle, hact, hskip, hwcnt, hbsr, hbcnt, hzero]
  exact hidle

theorem modulatorOk_of_closed (h : s.modActive = false) : ModulatorOk s := fun hact => by simp [h] at hact

theorem detectorOk_of_closed (h : s.demActive = false) : DetectorOk s := fun hact => by simp [h] at hact

theorem detectorIdle_of_open (h : s.demActive = true) : DetectorIdle s := fun hact => by simp [h] at hact

/-- Nothing of the invariant is about the responses. -/
theorem inv_respond_iff (c : RespCode) (d : DataLane) (s : State) : (respond c d s).Inv ↔ s.Inv := Iff.rfl

/-- Nothing of it is about the port. -/
theorem inv_port_iff (ts : List Transaction) (s : State) : State.Inv { s with port := ts } ↔ s.Inv := Iff.rfl

end Parts

/-! ### The modulator's commands (R34, R175, R176) -/

section Modulator

variable {s : State}

theorem modStart_modulatorOk (hcfg : cfgLegal s.cfg = true) :
    ModulatorOk (sendBits Config.num preamble { s with modN := 0, modActive := true }) := by
  rw [sendBits_preamble]
  refine fun _ => ⟨hcfg, 0, ?_⟩
  show (BitVec.ofNat 32 (16 * spb s.cfg)).toNat = _
  rw [BitVec.toNat_ofNat, Nat.mod_eq_of_lt (preamble_fits s.cfg)]
  rfl

theorem modByte_modulatorOk (b : Byte) (hact : s.modActive = true)
    (hn : s.modN.toNat + 8 * spb s.cfg ≤ 4294967295) (hok : ModulatorOk s) :
    ModulatorOk (sendBits Config.num (bitsMSB b) s) := by
  obtain ⟨hcfg, k, hk⟩ := hok hact
  have hfits : s.modN.toNat + (bitsMSB b).length * spb s.cfg < 2 ^ 32 := Nat.lt_succ_of_le hn
  rw [sendBits_eq _ _ _ hfits]
  refine fun _ => ⟨hcfg, k + 1, ?_⟩
  show (BitVec.ofNat 32 (s.modN.toNat + (bitsMSB b).length * spb s.cfg)).toNat = (16 + 8 * (k + 1)) * spb s.cfg
  rw [BitVec.toNat_ofNat, Nat.mod_eq_of_lt hfits, hk, bitsMSB_length]
  ring

end Modulator

/-! ### The detector's commands (R35 to R37, R197 to R199) -/

section Detector

variable {s : State}

theorem preambleSamples_eq (c : Cfg) : preambleSamples c = 16 * spb c := rfl

theorem demStart_detectorOk (hcfg : cfgLegal s.cfg = true) :
    DetectorOk { clearFilters Config.num s with
      demSkip := BitVec.ofNat 32 (preambleSamples s.cfg), demWcnt := 0, demBsr := 0, demBcnt := 0,
      demActive := true } := by
  refine fun _ => ⟨hcfg, spb_pos hcfg, ?_, fun _ => ⟨rfl, rfl⟩, Nat.one_pos, fun _ => ⟨rfl, rfl, rfl, rfl⟩⟩
  show (BitVec.ofNat 32 (preambleSamples s.cfg)).toNat ≤ preambleSamples s.cfg
  exact (BitVec.toNat_ofNat _ _).trans_le (Nat.mod_le _ _)

theorem demSkips_detectorOk (hact : s.demActive = true) (hskip : s.demSkip ≠ 0) (hok : DetectorOk s) :
    DetectorOk { s with demSkip := s.demSkip - 1 } := by
  obtain ⟨hcfg, hwcnt, hle, hnone, hbsr, hzero⟩ := hok hact
  have hdec : (s.demSkip - 1).toNat ≤ s.demSkip.toNat := by bv_omega
  exact fun _ => ⟨hcfg, hwcnt, hdec.trans hle, fun _ => hnone hskip, hbsr, hzero⟩

/-- DEM_WCNT does not wrap in a state that meets the invariant (R36). -/
theorem wcnt_succ_toNat (h : s.demWcnt.toNat < spb s.cfg) : (s.demWcnt + 1).toNat = s.demWcnt.toNat + 1 := by
  have hspb := spb_le s.cfg
  simp only [Config.spbMax] at hspb
  exact toNat_succ_of_lt (by omega)

theorem demFeeds_detectorOk (x : Sample) (hact : s.demActive = true) (hskip : s.demSkip = 0)
    (hwcnt : (s.demWcnt + 1).toNat ≠ spb s.cfg) (hok : DetectorOk s) :
    DetectorOk (feedFilters Config.num x s) := by
  obtain ⟨hcfg, hlt, hle, -, hbsr, -⟩ := hok hact
  have hsucc := wcnt_succ_toNat hlt
  have hlt' : (s.demWcnt + 1).toNat < spb s.cfg := by omega
  have hne : s.demWcnt + 1 ≠ 0 := fun h0 => Nat.succ_ne_zero _ (hsucc.symm.trans (congrArg BitVec.toNat h0))
  exact fun _ => ⟨hcfg, hlt', hle, fun h => absurd hskip h, hbsr, fun h => absurd h hne⟩

theorem closeWindow_filtersZero (s : State) : FiltersZero (closeWindow Config.num s) := by
  simp [FiltersZero]

/-- A byte of `k` bits and one bit more make a byte of `k + 1` bits. -/
theorem shiftIn_toNat_lt {b : Byte} {k : Nat} (v : Bool) (hb : b.toNat < 2 ^ k) (hk : k < 7) :
    ((b <<< 1) ||| (BitVec.ofBool v).setWidth 8).toNat < 2 ^ (k + 1) := by
  have hshift : (b <<< 1).toNat < 2 ^ (k + 1) := by
    rw [BitVec.toNat_shiftLeft, Nat.shiftLeft_eq, pow_succ]
    exact (Nat.mod_le _ _).trans_lt (by omega)
  have hbit : ((BitVec.ofBool v).setWidth 8).toNat < 2 ^ (k + 1) := by
    have h1 : ((BitVec.ofBool v).setWidth 8).toNat ≤ 1 := by cases v <;> decide
    have h2 : 2 ^ 1 ≤ 2 ^ (k + 1) := Nat.pow_le_pow_right (by omega) (by omega)
    omega
  exact Nat.or_lt_two_pow hshift hbit

theorem shiftInBit_bsr_lt (v : Bool) (h : s.demBsr.toNat < 2 ^ s.demBcnt.val) :
    (shiftInBit v s).demBsr.toNat < 2 ^ (shiftInBit v s).demBcnt.val := by
  rw [shiftInBit_eq]
  by_cases hfull : s.demBcnt = 7
  · simp [hfull]
  · have hlt : s.demBcnt.val < 7 := by
      have hval : s.demBcnt.val ≠ 7 := fun hv => hfull (Fin.ext hv)
      omega
    have hsucc : (s.demBcnt + 1).val = s.demBcnt.val + 1 := Fin.val_add_one_of_lt' (by omega)
    simp only [if_neg hfull, hsucc]
    exact shiftIn_toNat_lt v h hlt

theorem demCompletes_detectorOk (x : Sample) (hact : s.demActive = true) (hskip : s.demSkip = 0)
    (hok : DetectorOk s) : DetectorOk (closeWindow Config.num (feedFilters Config.num x s)) := by
  obtain ⟨hcfg, -, hle, -, hbsr, -⟩ := hok hact
  refine fun _ => ⟨?_, ?_, ?_, fun h => absurd hskip (by simpa using h), ?_, fun _ => closeWindow_filtersZero _⟩
  · simpa using hcfg
  · simpa using spb_pos hcfg
  · simpa using hle
  · rw [closeWindow_eq]
    exact shiftInBit_bsr_lt _ hbsr

end Detector

/-! ### PBUF and PKT_LEN (R39, R60) -/

section Packet

variable {i : Instr} {c : RespCode} {s u : State}

theorem recordedLen_le {len : Nat} (h : len ≤ 245) : (BitVec.ofNat 16 len).toNat ≤ Config.maxPayload :=
  ((BitVec.toNat_ofNat _ _).trans_le (Nat.mod_le _ _)).trans h

theorem Effect.pbuf_wf (h : Effect s i c u) (hwf : s.pbuf.wf) : u.pbuf.wf := by
  cases h with
  | bufWr a b => exact memWrite_wf a b hwf
  | pktSeal len n k => exact memWrites_wf 7 (be32 k) (s := { s with draws := n }) hwf
  | regWr => simpa using hwf
  | modStart | modByte =>
    rw [sendBits_state]
    exact hwf
  | demCompletes => simpa using hwf
  | _ => exact hwf

theorem Effect.pktLen_le (h : Effect s i c u) (hlen : s.pktLen.toNat ≤ Config.maxPayload) :
    u.pktLen.toNat ≤ Config.maxPayload := by
  cases h with
  | reset => exact Nat.zero_le _
  | pktSeal len n k hle => exact recordedLen_le hle
  | pktCheck m len n k hle => exact recordedLen_le hle
  | regWr => simpa using hlen
  | modStart | modByte =>
    rw [sendBits_state]
    exact hlen
  | demCompletes => simpa using hlen
  | _ => exact hlen

end Packet

/-! ### Every effect keeps the invariant -/

section Keeps

variable {i : Instr} {c : RespCode} {s u : State}

/-- The two streams' part of the invariant. -/
def StreamsOk (s : State) : Prop := ModulatorOk s ∧ DetectorOk s ∧ DetectorIdle s

theorem StreamsOk.of_same (h : StreamsOk s) (hcfg : SameConfig s u) (hmod : SameModulator s u)
    (hdem : SameDetector s u) : StreamsOk u := by
  obtain ⟨hmodOk, hdemOk, hidle⟩ := h
  exact ⟨hmod.modulatorOk hcfg hmodOk, hdem.detectorOk hcfg hdemOk, hdem.detectorIdle hidle⟩

theorem resetRegisters_streamsOk (s : State) : StreamsOk (resetRegisters Config.num s) :=
  ⟨modulatorOk_of_closed rfl, detectorOk_of_closed rfl, fun _ => ⟨rfl, rfl, rfl, rfl, rfl, rfl, rfl, rfl⟩⟩

/-- REG_WR writes a configuration register only while both streams are closed (R103, R256). -/
theorem writeReg_streamsOk {reg : IntReg} (v : Word)
    (hacc : reg.access = .rw ∨ reg.access = .cfg ∧ streamOpen s = false) (h : StreamsOk s) :
    StreamsOk (writeReg reg v s) := by
  obtain ⟨hmod, hdem⟩ := sameStreams_writeReg .ok .none reg v s
  rcases hacc with hrw | ⟨-, hclosed⟩
  · have hcfg : SameConfig s (writeReg reg v s) := by
      cases reg with
      | crcState => rfl
      | _ => cases hrw
    exact h.of_same hcfg hmod hdem
  · obtain ⟨hmodClosed, hdemClosed⟩ := Bool.or_eq_false_iff.1 hclosed
    obtain ⟨-, -, hidle⟩ := h
    exact ⟨modulatorOk_of_closed (by simpa using hmodClosed), detectorOk_of_closed (by simpa using hdemClosed),
      hdem.detectorIdle hidle⟩

theorem Effect.streamsOk_of_packet (h : Effect s i c u) (hi : IsPacketCommand i) (hok : StreamsOk s) :
    StreamsOk u := by
  obtain ⟨hcfg, -, hmod, hdem⟩ := h.packet_frame hi
  exact hok.of_same hcfg hmod hdem

theorem Effect.streamsOk_of_crc (h : Effect s i c u) (hi : IsCrcCommand i) (hok : StreamsOk s) : StreamsOk u := by
  obtain ⟨hcfg, hmod, hdem, -⟩ := h.crc_frame hi
  exact hok.of_same hcfg hmod hdem

/-- A modulator command keeps the detector's part. -/
theorem Effect.streamsOk_of_modulator (h : Effect s i c u) (hi : IsModulatorCommand i) (hok : StreamsOk s)
    (hmod : ModulatorOk u) : StreamsOk u := by
  obtain ⟨hcfg, -, hdem, -⟩ := h.modulator_frame hi
  obtain ⟨-, hdemOk, hidle⟩ := hok
  exact ⟨hmod, hdem.detectorOk hcfg hdemOk, hdem.detectorIdle hidle⟩

/-- A detector command keeps the modulator's part. -/
theorem Effect.streamsOk_of_detector (h : Effect s i c u) (hi : IsDetectorCommand i) (hok : StreamsOk s)
    (hdem : DetectorOk u) (hidle : DetectorIdle u) : StreamsOk u := by
  obtain ⟨hcfg, -, hmod, -⟩ := h.detector_frame hi
  obtain ⟨hmodOk, -⟩ := hok
  exact ⟨hmod.modulatorOk hcfg hmodOk, hdem, hidle⟩

theorem Effect.streamsOk (h : Effect s i c u) (hok : StreamsOk s) : StreamsOk u := by
  have heff := h
  have hisDem (x : Sample) : IsDetectorCommand (.demSample x) := .inr (.inl ⟨x, rfl⟩)
  have hokParts := hok
  obtain ⟨hmodOk, hdemOk, -⟩ := hokParts
  cases h with
  | draws n => exact hok
  | reset => exact resetRegisters_streamsOk s
  | regWr v _ hacc => exact writeReg_streamsOk v hacc hok
  | crcInit => exact heff.streamsOk_of_crc (.inl rfl) hok
  | crcByte b => exact heff.streamsOk_of_crc (.inr (.inl ⟨b, rfl⟩)) hok
  | bufWr a b => exact heff.streamsOk_of_packet (.inl ⟨a, b, rfl⟩) hok
  | pktSeal => exact heff.streamsOk_of_packet (.inr (.inr (.inl rfl))) hok
  | pktCheck m => exact heff.streamsOk_of_packet (.inr (.inr (.inr ⟨m, rfl⟩))) hok
  | modStart _ hcfg => exact heff.streamsOk_of_modulator (.inl rfl) hok (modStart_modulatorOk hcfg)
  | modByte b hact hn =>
    exact heff.streamsOk_of_modulator (.inr (.inl ⟨b, rfl⟩)) hok (modByte_modulatorOk b hact hn hmodOk)
  | modEnd => exact heff.streamsOk_of_modulator (.inr (.inr rfl)) hok (modulatorOk_of_closed rfl)
  | demStart _ hcfg =>
    exact heff.streamsOk_of_detector (.inl rfl) hok (demStart_detectorOk hcfg) (detectorIdle_of_open rfl)
  | demSkips x hact hskip =>
    exact heff.streamsOk_of_detector (hisDem x) hok (demSkips_detectorOk hact hskip hdemOk)
      (detectorIdle_of_open hact)
  | demFeeds x hact hskip hwcnt =>
    exact heff.streamsOk_of_detector (hisDem x) hok (demFeeds_detectorOk x hact hskip hwcnt hdemOk)
      (detectorIdle_of_open hact)
  | demCompletes x hact hskip =>
    exact heff.streamsOk_of_detector (hisDem x) hok (demCompletes_detectorOk x hact hskip hdemOk)
      (detectorIdle_of_open (by simpa using hact))
  | demEnd =>
    exact heff.streamsOk_of_detector (.inr (.inr rfl)) hok (detectorOk_of_closed rfl)
      fun _ => ⟨rfl, rfl, rfl, rfl, rfl, rfl, rfl, rfl⟩

theorem Effect.inv (h : Effect s i c u) (hinv : s.Inv) : u.Inv := by
  obtain ⟨hwf, hmod, hdem, hidle, hlen⟩ := hinv
  obtain ⟨hmod', hdem', hidle'⟩ := h.streamsOk ⟨hmod, hdem, hidle⟩
  exact ⟨h.pbuf_wf hwf, hmod', hdem', hidle', h.pktLen_le hlen⟩

theorem exec_keeps_inv {t : State} (hinv : s.Inv) (hexec : exec i s = .next t) : t.Inv := by
  obtain ⟨c, d, u, rfl, h⟩ := effect_of_exec hexec
  exact (inv_respond_iff c d u).2 (h.inv hinv)

end Keeps

/-! ### One step -/

section Step

variable {x : Transaction} {rest : List Transaction} {s : State}

theorem step_idle (h : s.port = []) : step s = .next s := by
  simp only [step, h]

theorem step_takes (h : s.port = x :: rest) : step s = accept x { s with port := rest } := by
  simp only [step, h]

theorem step_of_decode_ok {i : Instr} (h : s.port = x :: rest) (hdecode : decode x = .ok i) :
    step s = exec i { s with port := rest } := by
  rw [step_takes h, accept_of_decode_ok _ hdecode]

theorem step_of_decode_error {e : DecodeError} (h : s.port = x :: rest) (hdecode : decode x = .error e) :
    step s = .next (respond .errIllegal .none { s with port := rest }) := by
  rw [step_takes h, accept_of_decode_error _ hdecode]

end Step

/-! ### The statements -/

/-- Settles O50: the fields of a command's encoding pass R90's checks, and its row builds the command from them. -/
theorem decodeOfEncodeIsTheCommand : Obligations.DecodeOfEncodeIsTheCommand := decode_encode

/-- Settles O59: a step is idle, or answers ERR_ILLEGAL, or executes a command, whose effect keeps each part of the
invariant. -/
theorem stepKeepsTheInvariant : Obligations.StepKeepsTheInvariant := by
  intro s t hinv hstep
  cases hport : s.port with
  | nil =>
    obtain rfl : s = t := by simpa [step_idle hport] using hstep
    exact hinv
  | cons x rest =>
    have hinv' := (inv_port_iff rest s).2 hinv
    cases hdecode : decode x with
    | ok i =>
      rw [step_of_decode_ok hport hdecode] at hstep
      exact exec_keeps_inv hinv' hstep
    | error e =>
      obtain rfl : respond .errIllegal .none { s with port := rest } = t := by
        simpa [step_of_decode_error hport hdecode] using hstep
      exact (inv_respond_iff _ _ _).2 hinv'

/-- Settles O54: the step's three cases, by the port and by what its head decodes to. -/
theorem stepExecutesTheNextTransaction : Obligations.StepExecutesTheNextTransaction :=
  fun _ => ⟨step_idle, fun _ _ _ => step_of_decode_ok, fun _ _ _ => step_of_decode_error⟩

/-- Settles O60: every one of the step's cases goes on to a next state; a command's does by its effect. -/
theorem everyStepIsSafe : Obligations.EveryStepIsSafe := by
  intro s
  cases hport : s.port with
  | nil => exact ⟨s, step_idle hport⟩
  | cons x rest =>
    cases hdecode : decode x with
    | error e => exact ⟨_, step_of_decode_error hport hdecode⟩
    | ok i =>
      obtain ⟨c, d, u, hexec, -⟩ := exec_hasEffect i { s with port := rest }
      exact ⟨_, (step_of_decode_ok hport hdecode).trans hexec⟩

/-- Settles O58: no stream is open and PBUF is empty after power-on, and the registers are RESET's. -/
theorem powerOnMeetsTheInvariant : Obligations.PowerOnMeetsTheInvariant := by
  obtain ⟨hmod, hdem, hidle⟩ := resetRegisters_streamsOk State.reset
  exact ⟨Memory.wf_nil, hmod, hdem, hidle, Nat.zero_le _⟩

/-- Settles O56: the placed word stands at the head of the port, before all that wait. -/
theorem placedWordIsRunNext : Obligations.PlacedWordIsRunNext := by
  intro s nbits w i h
  have hdecode : decode (tableTransaction nbits w) = .ok i := by
    cases hd : decode (tableTransaction nbits w) with
    | ok j => simpa [decodeTableWord, hd, Except.toOption] using h
    | error e => simp [decodeTableWord, hd, Except.toOption] at h
  exact step_of_decode_ok (s := s.withFetchWord nbits w) rfl hdecode

end Sys2Proof.Machine
end

section
/-! PROOFS. What a command reads: CRC_STATE and the two logs are read by no command of another unit (R32, R46, R47);
and the three reads and the two writes of R69 repeat. -/

namespace Sys2Proof.Machine

/-! ### The packet commands read PBUF, and of the model's own fields the draws (log 4) -/

section Passive

variable {g : State → State}

/-- `g` changes only what no packet command reads or writes. -/
structure Passive (g : State → State) : Prop where
  keepsPbuf (s : State) : (g s).pbuf = s.pbuf
  keepsDraws (s : State) : (g s).draws = s.draws
  commutes (s : State) (m : Memory) (n : Nat) (l : BitVec 16) (k : Word) (r : List Response) :
    g { s with pbuf := m, draws := n, pktLen := l, pktCalc := k, responses := r } =
      { g s with pbuf := m, draws := n, pktLen := l, pktCalc := k, responses := r }
  keepsRegisters (s : State) : (g s).pktLen = s.pktLen ∧ (g s).pktCalc = s.pktCalc
  keepsResponses (s : State) : (g s).responses = s.responses

theorem Passive.draws (hg : Passive g) (n : Nat) (s : State) :
    { g s with draws := n } = g { s with draws := n } := by
  obtain ⟨hlen, hcalc⟩ := hg.keepsRegisters s
  rw [hg.commutes s s.pbuf n s.pktLen s.pktCalc s.responses, ← hg.keepsPbuf, ← hlen, ← hcalc, ← hg.keepsResponses]

theorem Passive.memWrite (hg : Passive g) (a v : Byte) (s : State) : memWrite a v (g s) = g (memWrite a v s) := by
  obtain ⟨hlen, hcalc⟩ := hg.keepsRegisters s
  refine Eq.trans ?_ (hg.commutes s (s.pbuf.store a.toNat v) s.draws s.pktLen s.pktCalc s.responses).symm
  rw [← hg.keepsDraws, ← hlen, ← hcalc, ← hg.keepsResponses, Machine.memWrite, hg.keepsPbuf]

theorem Passive.recordPacket (hg : Passive g) (len : Nat) (k : Word) (s : State) :
    recordPacket len k (g s) = g (recordPacket len k s) := by
  refine Eq.trans ?_ (hg.commutes s s.pbuf s.draws (BitVec.ofNat 16 len) k s.responses).symm
  rw [← hg.keepsDraws, ← hg.keepsPbuf, ← hg.keepsResponses]
  rfl

theorem Passive.respond (hg : Passive g) (c : RespCode) (d : DataLane) (s : State) :
    respond c d (g s) = g (respond c d s) := by
  obtain ⟨hlen, hcalc⟩ := hg.keepsRegisters s
  refine Eq.trans ?_ (hg.commutes s s.pbuf s.draws s.pktLen s.pktCalc (s.responses ++ [⟨c, d⟩])).symm
  rw [← hg.keepsDraws, ← hg.keepsPbuf, ← hlen, ← hcalc, Machine.respond, hg.keepsResponses]

theorem Passive.memRead (hg : Passive g) (a : Byte) (s : State) :
    memRead a (g s) = ((memRead a s).1, g (memRead a s).2) := by
  cases hfind : s.pbuf.find a.toNat with
  | some v => rw [memRead_written hfind, memRead_written (hg.keepsPbuf s ▸ hfind)]
  | none =>
    rw [memRead_unwritten hfind, memRead_unwritten (hg.keepsPbuf s ▸ hfind), hg.keepsDraws, hg.draws]

theorem Passive.memReads (hg : Passive g) (as : List Byte) (s : State) :
    memReads as (g s) = ((memReads as s).1, g (memReads as s).2) := by
  induction as generalizing s with
  | nil => rfl
  | cons a as ih => simp only [Machine.memReads, hg.memRead, ih]

theorem Passive.memWrites (hg : Passive g) (a : Byte) (vs : List Byte) (s : State) :
    memWrites a vs (g s) = g (memWrites a vs s) := by
  induction vs generalizing a s with
  | nil => rfl
  | cons v vs ih => rw [Machine.memWrites, hg.memWrite, ih, Machine.memWrites]

/-- The command does the same in `s` and in `g s`, and `g`'s changes come through it. -/
def CarriesThrough (g : State → State) (run : State → Host.Outcome State Fault Refusal) (s : State) : Prop :=
  ∃ t, run s = .next t ∧ run (g s) = .next (g t)

theorem Passive.runPktSeal (hg : Passive g) (s : State) : CarriesThrough g runPktSeal s := by
  simp only [CarriesThrough, Machine.runPktSeal, sealFrame, answer, hg.memReads]
  split
  · exact ⟨_, rfl, by rw [hg.respond]⟩
  · exact ⟨_, rfl, by rw [hg.memWrites, hg.recordPacket, hg.respond]⟩

theorem Passive.runPktCheck (hg : Passive g) (m : Word) (s : State) : CarriesThrough g (runPktCheck m) s := by
  simp only [CarriesThrough, Machine.runPktCheck, verifyFrame, answer, raise, hg.memReads]
  split
  · exact ⟨_, rfl, by rw [hg.respond]⟩
  split
  · exact ⟨_, rfl, by rw [hg.respond]⟩
  split
  · exact ⟨_, rfl, by rw [hg.respond]⟩
  split
  · exact ⟨_, rfl, by rw [hg.recordPacket, hg.respond]⟩
  · exact ⟨_, rfl, by rw [hg.recordPacket, hg.respond]⟩

/-- The state with another CRC_STATE. -/
def withCrcState (c : Word) (s : State) : State := { s with crcState := c }

theorem passive_withCrcState (c : Word) : Passive (withCrcState c) :=
  ⟨fun _ => rfl, fun _ => rfl, fun _ _ _ _ _ _ => rfl, fun _ => ⟨rfl, rfl⟩, fun _ => rfl⟩

/-- The state with other logs and with other transactions waiting. -/
def withOutside (tx : List Sample) (rx : List Byte) (ts : List Transaction) (s : State) : State :=
  { s with txlog := tx, rxlog := rx, port := ts }

theorem passive_withOutside (tx : List Sample) (rx : List Byte) (ts : List Transaction) :
    Passive (withOutside tx rx ts) :=
  ⟨fun _ => rfl, fun _ => rfl, fun _ _ _ _ _ _ => rfl, fun _ => ⟨rfl, rfl⟩, fun _ => rfl⟩

theorem CarriesThrough.eq_next {run : State → Host.Outcome State Fault Refusal} {s t : State}
    (h : CarriesThrough g run s) (hrun : run s = .next t) : run (g s) = .next (g t) := by
  obtain ⟨u, hu, hgu⟩ := h
  obtain rfl : u = t := by simpa [hu] using hrun
  exact hgu

end Passive

/-! ### No command reads the logs or the port, and each appends to its log (R46, R47) -/

section Logs

variable {i : Instr} {s : State} (tx : List Sample) (rx : List Byte) (ts : List Transaction)

/-- From `s` the command appends some samples to TXLOG and some bytes to RXLOG, each only as its unit's command, and
does the same whatever the logs hold and whatever waits on the port. -/
def AppendsToLogs (i : Instr) (s : State) : Prop :=
  ∃ (xs : List Sample) (bs : List Byte) (u : State),
    (xs ≠ [] → i = .modStart ∨ ∃ b, i = .modByte b) ∧ (bs ≠ [] → ∃ x, i = .demSample x) ∧
    ∀ tx rx ts, exec i (withOutside tx rx ts s) = .next (withOutside (tx ++ xs) (rx ++ bs) ts u)

theorem respond_withOutside (c : RespCode) (d : DataLane) (s : State) :
    respond c d (withOutside tx rx ts s) = withOutside tx rx ts (respond c d s) := rfl

theorem appends_of_answers {c : RespCode} {d : DataLane} {xs : List Sample} {bs : List Byte} {u : State}
    (hxs : xs ≠ [] → i = .modStart ∨ ∃ b, i = .modByte b) (hbs : bs ≠ [] → ∃ x, i = .demSample x)
    (h : ∀ tx rx ts, exec i (withOutside tx rx ts s) = .next (respond c d (withOutside (tx ++ xs) (rx ++ bs) ts u))) :
    AppendsToLogs i s :=
  ⟨xs, bs, respond c d u, hxs, hbs, h⟩

theorem appendsNothing {c : RespCode} {d : DataLane} {u : State}
    (h : ∀ tx rx ts, exec i (withOutside tx rx ts s) = .next (respond c d (withOutside tx rx ts u))) :
    AppendsToLogs i s := by
  refine appends_of_answers (c := c) (d := d) (xs := []) (bs := []) (u := u) (fun hne => absurd rfl hne)
    (fun hne => absurd rfl hne) fun tx rx ts => ?_
  rw [List.append_nil, List.append_nil, h]

theorem appendsNothing_of_carries {run : State → Host.Outcome State Fault Refusal} (hexec : exec i = run)
    (h : ∀ tx rx ts, CarriesThrough (withOutside tx rx ts) run s) : AppendsToLogs i s := by
  obtain ⟨t, hrun, -⟩ := h [] [] []
  refine ⟨[], [], t, fun hne => absurd rfl hne, fun hne => absurd rfl hne, fun tx rx ts => ?_⟩
  rw [hexec, List.append_nil, List.append_nil]
  exact (h tx rx ts).eq_next hrun

theorem readReg_withOutside (reg : IntReg) (s : State) :
    readReg reg (withOutside tx rx ts s) = readReg reg s := by
  cases reg <;> rfl

theorem readSample_withOutside (N : Numerics Sample) (reg : SampleReg) (s : State) :
    readSample N reg (withOutside tx rx ts s) = readSample N reg s := by
  cases reg <;> rfl

theorem writeReg_withOutside (reg : IntReg) (v : Word) (s : State) :
    writeReg reg v (withOutside tx rx ts s) = withOutside tx rx ts (writeReg reg v s) := by
  cases reg <;> rfl

theorem regRd_appendsToLogs (r : Byte) (s : State) : AppendsToLogs (.regRd r) s := by
  cases hreg : IntReg.ofNum r with
  | none => exact appendsNothing fun tx rx ts => runRegRd_undefined (s := withOutside tx rx ts s) hreg
  | some reg =>
    refine appendsNothing (c := .ok) (d := .u32 (readReg reg s)) (u := s) fun tx rx ts =>
      (runRegRd_defined (s := withOutside tx rx ts s) reg hreg).trans ?_
    rw [readReg_withOutside]

theorem sregRd_appendsToLogs (r : Byte) (s : State) : AppendsToLogs (.sregRd r) s := by
  cases hreg : SampleReg.ofNum r with
  | none => exact appendsNothing fun tx rx ts => runSregRd_undefined (s := withOutside tx rx ts s) _ hreg
  | some reg =>
    refine appendsNothing (c := .ok) (d := .sample (readSample Config.num reg s)) (u := s) fun tx rx ts =>
      (runSregRd_defined (s := withOutside tx rx ts s) _ reg hreg).trans ?_
    rw [readSample_withOutside]

theorem regWr_appendsToLogs (r : Byte) (v : Word) (s : State) : AppendsToLogs (.regWr r v) s := by
  cases hreg : IntReg.ofNum r with
  | none => exact appendsNothing fun tx rx ts => runRegWr_undefined (s := withOutside tx rx ts s) v hreg
  | some reg =>
    cases hacc : reg.access with
    | ro => exact appendsNothing fun tx rx ts => runRegWr_ro (s := withOutside tx rx ts s) v hreg hacc
    | rw =>
      refine appendsNothing (c := .ok) (d := .none) (u := writeReg reg v s) fun tx rx ts =>
        (runRegWr_rw (s := withOutside tx rx ts s) v hreg hacc).trans ?_
      rw [writeReg_withOutside]
    | cfg =>
      cases hopen : streamOpen s with
      | true => exact appendsNothing fun tx rx ts => runRegWr_cfg_busy (s := withOutside tx rx ts s) v hreg hacc hopen
      | false =>
        refine appendsNothing (c := .ok) (d := .none) (u := writeReg reg v s) fun tx rx ts =>
          (runRegWr_cfg_writes (s := withOutside tx rx ts s) v hreg hacc hopen).trans ?_
        rw [writeReg_withOutside]

theorem crcCheck_appendsToLogs (e : Word) (s : State) : AppendsToLogs (.crcCheck e) s := by
  by_cases h : readReg .crcResult s = e
  · exact appendsNothing (d := .u32 (readReg .crcResult s)) (u := s) fun tx rx ts =>
      runCrcCheck_match (s := withOutside tx rx ts s) h
  · exact appendsNothing (d := .u32 (readReg .crcResult s)) (u := s) fun tx rx ts =>
      runCrcCheck_mismatch (s := withOutside tx rx ts s) h

theorem bufRd_appendsToLogs (a : Byte) (s : State) : AppendsToLogs (.bufRd a) s := by
  refine appendsNothing (c := .ok) (d := .u32 ((memRead a s).1.setWidth 32)) (u := (memRead a s).2) fun tx rx ts => ?_
  show runBufRd a (withOutside tx rx ts s) = _
  rw [runBufRd, (passive_withOutside tx rx ts).memRead, answer_next]

/-- The samples that bits send do not depend on the log they are appended to. -/
theorem sendBits_withOutside (N : Numerics Sample) (vs : List Bool) (s : State) :
    ∃ xs u, ∀ tx rx ts, sendBits N vs (withOutside tx rx ts s) = withOutside (tx ++ xs) rx ts u := by
  induction vs generalizing s with
  | nil => exact ⟨[], s, fun tx rx ts => by rw [List.append_nil]; rfl⟩
  | cons v vs ih =>
    obtain ⟨xs, u, h⟩ := ih (sendBit N v s)
    refine ⟨bitSamples N s.cfg v s.modN.toNat ++ xs, u, fun tx rx ts => ?_⟩
    rw [← List.append_assoc]
    exact h (tx ++ bitSamples N s.cfg v s.modN.toNat) rx ts

theorem modStart_appendsToLogs (s : State) : AppendsToLogs .modStart s := by
  cases hact : s.modActive with
  | true => exact appendsNothing fun tx rx ts => runModStart_open (s := withOutside tx rx ts s) _ hact
  | false =>
    cases hcfg : cfgLegal s.cfg with
    | false => exact appendsNothing fun tx rx ts => runModStart_illegal (s := withOutside tx rx ts s) _ hact hcfg
    | true =>
      obtain ⟨xs, u, h⟩ := sendBits_withOutside Config.num preamble { s with modN := 0, modActive := true }
      refine appends_of_answers (c := .ok) (d := .none) (xs := xs) (bs := []) (u := u) (fun _ => .inl rfl)
        (fun hne => absurd rfl hne) fun tx rx ts =>
          (runModStart_legal (s := withOutside tx rx ts s) _ hact hcfg).trans ?_
      have hopened : { withOutside tx rx ts s with modN := 0, modActive := true } =
          withOutside tx rx ts { s with modN := 0, modActive := true } := rfl
      rw [hopened, h, List.append_nil]

theorem modByte_appendsToLogs (b : Byte) (s : State) : AppendsToLogs (.modByte b) s := by
  cases hact : s.modActive with
  | false => exact appendsNothing fun tx rx ts => runModByte_closed (s := withOutside tx rx ts s) _ b hact
  | true =>
    by_cases hn : s.modN.toNat + 8 * spb s.cfg ≤ 4294967295
    · obtain ⟨xs, u, h⟩ := sendBits_withOutside Config.num (bitsMSB b) s
      refine appends_of_answers (c := .ok) (d := .none) (xs := xs) (bs := []) (u := u) (fun _ => .inr ⟨b, rfl⟩)
        (fun hne => absurd rfl hne) fun tx rx ts =>
          (runModByte_sends (s := withOutside tx rx ts s) _ b hact hn).trans ?_
      rw [h, List.append_nil]
    · exact appendsNothing fun tx rx ts =>
        runModByte_overflow (s := withOutside tx rx ts s) _ b hact (Nat.lt_of_not_le hn)

theorem modEnd_appendsToLogs (s : State) : AppendsToLogs .modEnd s := by
  cases hact : s.modActive with
  | false => exact appendsNothing fun tx rx ts => runModEnd_closed (s := withOutside tx rx ts s) hact
  | true =>
    exact appendsNothing (u := { s with modActive := false }) fun tx rx ts =>
      runModEnd_open (s := withOutside tx rx ts s) hact

theorem demStart_appendsToLogs (s : State) : AppendsToLogs .demStart s := by
  cases hact : s.demActive with
  | true => exact appendsNothing fun tx rx ts => runDemStart_open (s := withOutside tx rx ts s) _ hact
  | false =>
    cases hcfg : cfgLegal s.cfg with
    | false => exact appendsNothing fun tx rx ts => runDemStart_illegal (s := withOutside tx rx ts s) _ hact hcfg
    | true =>
      exact appendsNothing (u := { clearFilters Config.num s with
        demSkip := BitVec.ofNat 32 (preambleSamples s.cfg), demWcnt := 0, demBsr := 0, demBcnt := 0,
        demActive := true }) fun tx rx ts => runDemStart_legal (s := withOutside tx rx ts s) _ hact hcfg

/-- The byte that a decided bit completes does not depend on the log it is appended to. -/
theorem shiftInBit_withOutside (v : Bool) (s : State) :
    ∃ bs, ∀ tx rx ts, shiftInBit v (withOutside tx rx ts s) = withOutside tx (rx ++ bs) ts (shiftInBit v s) := by
  by_cases hfull : s.demBcnt = 7
  · refine ⟨[(s.demBsr <<< 1) ||| (BitVec.ofBool v).setWidth 8], fun tx rx ts => ?_⟩
    simp only [shiftInBit_eq, withOutside, if_pos hfull]
  · refine ⟨[], fun tx rx ts => ?_⟩
    simp only [shiftInBit_eq, withOutside, if_neg hfull, List.append_nil]

theorem closeWindow_withOutside (N : Numerics Sample) (s : State) :
    ∃ bs, ∀ tx rx ts, closeWindow N (withOutside tx rx ts s) = withOutside tx (rx ++ bs) ts (closeWindow N s) := by
  obtain ⟨bs, h⟩ := shiftInBit_withOutside
    (N.gt (power N s.s1_1 s.s2_1 (coeff N s.cfg true)) (power N s.s1_0 s.s2_0 (coeff N s.cfg false))) s
  refine ⟨bs, fun tx rx ts => ?_⟩
  rw [closeWindow_eq, closeWindow_eq]
  exact congrArg (fun u : State => { u with
    s1_0 := N.zero, s2_0 := N.zero, s1_1 := N.zero, s2_1 := N.zero, demWcnt := 0
    power0 := power N s.s1_0 s.s2_0 (coeff N s.cfg false)
    power1 := power N s.s1_1 s.s2_1 (coeff N s.cfg true) }) (h tx rx ts)

theorem demSample_appendsToLogs (x : Sample) (s : State) : AppendsToLogs (.demSample x) s := by
  cases hact : s.demActive with
  | false => exact appendsNothing fun tx rx ts => runDemSample_closed (s := withOutside tx rx ts s) _ x hact
  | true =>
    by_cases hskip : s.demSkip = 0
    · have hfed tx rx ts : feedFilters Config.num x (withOutside tx rx ts s) =
          withOutside tx rx ts (feedFilters Config.num x s) := rfl
      by_cases hwcnt : (s.demWcnt + 1).toNat = spb s.cfg
      · obtain ⟨bs, h⟩ := closeWindow_withOutside Config.num (feedFilters Config.num x s)
        refine appends_of_answers (c := .ok) (d := .none) (xs := []) (bs := bs)
          (u := closeWindow Config.num (feedFilters Config.num x s)) (fun hne => absurd rfl hne) (fun _ => ⟨x, rfl⟩)
          fun tx rx ts => (runDemSample_completes (s := withOutside tx rx ts s) _ x hact hskip hwcnt).trans ?_
        rw [hfed, h, List.append_nil]
      · exact appendsNothing (u := feedFilters Config.num x s) fun tx rx ts =>
          runDemSample_feeds (s := withOutside tx rx ts s) _ x hact hskip hwcnt
    · exact appendsNothing (u := { s with demSkip := s.demSkip - 1 }) fun tx rx ts =>
        runDemSample_skips (s := withOutside tx rx ts s) _ x hact hskip

theorem demEnd_appendsToLogs (s : State) : AppendsToLogs .demEnd s := by
  cases hact : s.demActive with
  | false => exact appendsNothing fun tx rx ts => runDemEnd_closed (s := withOutside tx rx ts s) _ hact
  | true =>
    exact appendsNothing (u := { clearFilters Config.num s with
      demSkip := 0, demWcnt := 0, demBsr := 0, demBcnt := 0, demActive := false }) fun tx rx ts =>
        runDemEnd_open (s := withOutside tx rx ts s) _ hact

theorem exec_appendsToLogs (i : Instr) (s : State) : AppendsToLogs i s := by
  cases i with
  | nop => exact appendsNothing (c := .ok) (d := .none) (u := s) fun _ _ _ => rfl
  | reset => exact appendsNothing (c := .ok) (d := .none) (u := (resetRegisters Config.num s)) fun _ _ _ => rfl
  | regRd r => exact regRd_appendsToLogs r s
  | regWr r v => exact regWr_appendsToLogs r v s
  | sregRd r => exact sregRd_appendsToLogs r s
  | crcInit =>
    exact appendsNothing (c := .ok) (d := .none) (u := { s with crcState := Config.crcInit }) fun _ _ _ => rfl
  | crcByte b =>
    exact appendsNothing (c := .ok) (d := .none) (u := { s with crcState := crcStep s.crcState b }) fun _ _ _ => rfl
  | crcCheck e => exact crcCheck_appendsToLogs e s
  | bufWr a b => exact appendsNothing (c := .ok) (d := .none) (u := memWrite a b s) fun _ _ _ => rfl
  | bufRd a => exact bufRd_appendsToLogs a s
  | pktSeal => exact appendsNothing_of_carries rfl fun tx rx ts => (passive_withOutside tx rx ts).runPktSeal s
  | pktCheck m => exact appendsNothing_of_carries rfl fun tx rx ts => (passive_withOutside tx rx ts).runPktCheck m s
  | modStart => exact modStart_appendsToLogs s
  | modByte b => exact modByte_appendsToLogs b s
  | modEnd => exact modEnd_appendsToLogs s
  | demStart => exact demStart_appendsToLogs s
  | demSample x => exact demSample_appendsToLogs x s
  | demEnd => exact demEnd_appendsToLogs s

/-- The state's own logs and port are one choice of what they held. -/
theorem exec_own_outside {xs : List Sample} {bs : List Byte} {t u : State}
    (h : ∀ tx rx ts, exec i (withOutside tx rx ts s) = .next (withOutside (tx ++ xs) (rx ++ bs) ts u))
    (hexec : exec i s = .next t) : withOutside (s.txlog ++ xs) (s.rxlog ++ bs) s.port u = t :=
  Host.Outcome.next.inj ((h s.txlog s.rxlog s.port).symm.trans hexec)

/-- A command does the same whatever waits on the port (log 1). -/
theorem exec_of_port {t : State} (hexec : exec i s = .next t) :
    exec i { s with port := ts } = .next { t with port := ts } := by
  obtain ⟨xs, bs, u, -, -, h⟩ := exec_appendsToLogs i s
  obtain rfl := exec_own_outside h hexec
  exact h s.txlog s.rxlog ts

/-- A command takes nothing further from the port (log 1). -/
theorem exec_keeps_port {t : State} (hexec : exec i s = .next t) : t.port = s.port := by
  obtain ⟨xs, bs, u, -, -, h⟩ := exec_appendsToLogs i s
  obtain rfl := exec_own_outside h hexec
  rfl

end Logs

/-! ### Reads and writes that repeat (R69) -/

section Repeats

variable {i : Instr} {s t : State}

/-- REG_RD, SREG_RD, and BUF_RD of a written byte. -/
def IsRepeatableRead (s : State) (i : Instr) : Prop :=
  (∃ r, i = .regRd r) ∨ (∃ r, i = .sregRd r) ∨ ∃ a : Byte, i = .bufRd a ∧ (s.pbuf.find a.toNat).isSome = true

theorem Effect.sameBlock_of_read {c : RespCode} {u : State} (h : Effect s i c u)
    (hi : (∃ r, i = .regRd r) ∨ (∃ r, i = .sregRd r) ∨ ∃ a, i = .bufRd a) : SameBlock s u := by
  cases h with
  | draws n => exact sameBlock_draws n s
  | _ => simp at hi

/-- A repeatable read answers from what the state holds, its own response added or not. -/
theorem IsRepeatableRead.exec_eq (h : IsRepeatableRead s i) :
    ∃ c d, exec i s = .next (respond c d s) ∧
      ∀ c' d', exec i (respond c' d' s) = .next (respond c d (respond c' d' s)) := by
  rcases h with ⟨r, rfl⟩ | ⟨r, rfl⟩ | ⟨a, rfl, hsome⟩
  · cases hreg : IntReg.ofNum r with
    | none => exact ⟨_, _, runRegRd_undefined hreg, fun _ _ => runRegRd_undefined hreg⟩
    | some reg =>
      have hsame (c' : RespCode) (d' : DataLane) : readReg reg (respond c' d' s) = readReg reg s := by
        cases reg <;> rfl
      exact ⟨_, _, runRegRd_defined reg hreg, fun c' d' => hsame c' d' ▸ runRegRd_defined reg hreg⟩
  · cases hreg : SampleReg.ofNum r with
    | none => exact ⟨_, _, runSregRd_undefined _ hreg, fun _ _ => runSregRd_undefined _ hreg⟩
    | some reg =>
      have hsame (c' : RespCode) (d' : DataLane) :
          readSample Config.num reg (respond c' d' s) = readSample Config.num reg s := by
        cases reg <;> rfl
      exact ⟨_, _, runSregRd_defined _ reg hreg, fun c' d' => hsame c' d' ▸ runSregRd_defined _ reg hreg⟩
  · obtain ⟨v, hv⟩ := Option.isSome_iff_exists.1 hsome
    obtain ⟨-, hbufRd⟩ := bufRdReadsOneByte
    exact ⟨_, _, (hbufRd a s).1 v hv, fun c' d' => (hbufRd a (respond c' d' s)).1 v hv⟩

theorem memWrite_memWrite_sameBlock (a b : Byte) (c d : RespCode) (s : State) :
    SameBlock (respond c .none (memWrite a b s))
      (respond d .none (memWrite a b (respond c .none (memWrite a b s)))) := by
  have hpbuf : SamePbuf (memWrite a b s) (memWrite a b (memWrite a b s)) := fun x => by
    rw [memWrite_find]
    split_ifs with hx
    · rw [memWrite_find, if_pos hx]
    · rfl
  exact ⟨rfl, rfl, ⟨rfl, rfl, rfl⟩, ⟨rfl, rfl, rfl, rfl, rfl, rfl, rfl, rfl, rfl, rfl, rfl, rfl, rfl⟩,
    ⟨rfl, rfl⟩, hpbuf⟩

theorem writeReg_writeReg (reg : IntReg) (v : Word) (s : State) :
    writeReg reg v (writeReg reg v s) = writeReg reg v s := by
  cases reg <;> rfl

theorem writeReg_respond (reg : IntReg) (v : Word) (c : RespCode) (d : DataLane) (s : State) :
    writeReg reg v (respond c d s) = respond c d (writeReg reg v s) := by
  cases reg <;> rfl

theorem streamOpen_writeReg (reg : IntReg) (v : Word) (s : State) : streamOpen (writeReg reg v s) = streamOpen s := by
  rw [streamOpen, writeReg_modActive, writeReg_demActive, streamOpen]

/-- REG_WR again: where it wrote, it writes the same value; where it failed, it fails again (R103). -/
theorem regWr_again (r : Byte) (v : Word) (s : State) :
    ∃ t u, exec (.regWr r v) s = .next t ∧ exec (.regWr r v) t = .next u ∧ SameBlock t u := by
  have hfails {c : RespCode} (h : ∀ s' : State, streamOpen s' = streamOpen s →
      exec (.regWr r v) s' = .next (respond c .none s')) :
      ∃ t u, exec (.regWr r v) s = .next t ∧ exec (.regWr r v) t = .next u ∧ SameBlock t u :=
    ⟨_, _, h s rfl, h (respond c .none s) rfl, sameBlock_respond _ _ _⟩
  have hwrites (reg : IntReg) (h : ∀ s' : State, streamOpen s' = streamOpen s →
      exec (.regWr r v) s' = .next (respond .ok .none (writeReg reg v s'))) :
      ∃ t u, exec (.regWr r v) s = .next t ∧ exec (.regWr r v) t = .next u ∧ SameBlock t u := by
    refine ⟨_, _, h s rfl, h (respond .ok .none (writeReg reg v s)) (streamOpen_writeReg reg v s), ?_⟩
    rw [writeReg_respond, writeReg_writeReg]
    exact sameBlock_respond _ _ _
  cases hreg : IntReg.ofNum r with
  | none => exact hfails fun s' _ => runRegWr_undefined v hreg
  | some reg =>
    cases hacc : reg.access with
    | ro => exact hfails fun s' _ => runRegWr_ro v hreg hacc
    | rw => exact hwrites reg fun s' _ => runRegWr_rw v hreg hacc
    | cfg =>
      cases hopen : streamOpen s with
      | true => exact hfails fun s' hsame => runRegWr_cfg_busy v hreg hacc (hsame.trans hopen)
      | false => exact hwrites reg fun s' hsame => runRegWr_cfg_writes v hreg hacc (hsame.trans hopen)

end Repeats

/-! ### The statements -/

/-- Settles O14: the writers of CRC_STATE by the cases of `Effect`; a packet command carries another CRC_STATE through,
which it neither reads nor writes (`Passive`). -/
theorem crcStateIsIndependentOfThePacketUnit : Obligations.CrcStateIsIndependentOfThePacketUnit := by
  refine ⟨fun i s t hexec hne => ?_, ?_⟩
  · obtain ⟨c, d, u, rfl, h⟩ := effect_of_exec hexec
    exact h.crcState_writer hne
  · rintro i s t c (rfl | ⟨m, rfl⟩) hexec
    · exact ((passive_withCrcState c).runPktSeal s).eq_next hexec
    · exact ((passive_withCrcState c).runPktCheck m s).eq_next hexec

/-- Settles O48: each command's appended samples and bytes; the state's own logs are one choice of what they held. -/
theorem logsAreAppendOnlyAndNeverRead : Obligations.LogsAreAppendOnlyAndNeverRead := by
  intro i s t hexec
  obtain ⟨xs, bs, u, hxs, hbs, h⟩ := exec_appendsToLogs i s
  obtain rfl := exec_own_outside h hexec
  exact ⟨xs, bs, rfl, rfl, hxs, hbs, fun tx rx => h tx rx s.port⟩

/-- Settles O46: a read's effect is at most a draw; a written byte and a register read the same again; and the same
write again writes the same value. -/
theorem readsHaveNoSideEffects : Obligations.ReadsHaveNoSideEffects := by
  refine fun i s t hexec => ⟨fun hi => ?_, fun hi => ?_, ?_⟩
  · obtain ⟨c, d, u, rfl, h⟩ := effect_of_exec hexec
    exact h.sameBlock_of_read hi
  · obtain ⟨c, d, hread, hagain⟩ := IsRepeatableRead.exec_eq hi
    obtain rfl : respond c d s = t := by simpa [hread] using hexec
    exact ⟨_, hagain c d, by rw [lastResponse_respond, lastResponse_respond]⟩
  · rintro (⟨a, b, rfl⟩ | ⟨r, v, rfl⟩)
    · obtain rfl : respond .ok .none (memWrite a b s) = t := Host.Outcome.next.inj hexec
      exact ⟨_, rfl, memWrite_memWrite_sameBlock a b _ _ s⟩
    · obtain ⟨t', u, ht', hu, hsame⟩ := regWr_again r v s
      obtain rfl : t' = t := by simpa [ht'] using hexec
      exact ⟨u, hu, hsame⟩

end Sys2Proof.Machine
end

section
/-! PROOFS. The checks of R90 in their order, runs of presented transactions (R49, R71), the assembler's ranges (R91,
R92), and the computed registers after either reset (R250). -/

namespace Sys2Proof

/-! ### The first failing check names the error (R90) -/

section Order

variable {x : Transaction} {m : Mnemonic}

theorem decode_of_checkedRow_error {e : DecodeError} (h : checkedRow x = .error e) : decode x = .error e := by
  simp only [decode, h]

theorem exists_mnemonic_of_opcodeDefined (h : x.opcodeDefined = true) :
    ∃ m, Mnemonic.ofOpcode (opcField x.word) = some m := by
  rwa [opcodeDefined_eq_isSome, Option.isSome_iff_exists] at h

theorem decode_undefinedOpcode (h : x.opcodeDefined = false) : decode x = .error .undefinedOpcode := by
  rw [opcodeDefined_eq_isSome, Option.isSome_eq_false_iff, Option.isNone_iff_eq_none] at h
  exact decode_of_checkedRow_error (by simp only [checkedRow, h])

/-- A field's check fails exactly where the row does not use the field and the field is not 0 (R83). -/
theorem unused_and_nonzero_iff {uses : Bool} {f : Byte} : (uses = false ∧ f ≠ 0) ↔ ¬ (uses = false → f = 0) :=
  Classical.not_imp.symm

theorem reservedClear_eq_false_iff : x.reservedClear = false ↔ rsvField x.word ≠ 0 := by
  rw [← Bool.not_eq_true, reservedClear_iff]

theorem unusedAClear_eq_false_iff (hopc : opcField x.word = m.opcode) :
    x.unusedAClear = false ↔ m.usesA = false ∧ aField x.word ≠ 0 := by
  rw [← Bool.not_eq_true, unusedAClear_iff hopc, unused_and_nonzero_iff]

theorem unusedBClear_eq_false_iff (hopc : opcField x.word = m.opcode) :
    x.unusedBClear = false ↔ m.usesB = false ∧ bField x.word ≠ 0 := by
  rw [← Bool.not_eq_true, unusedBClear_iff hopc, unused_and_nonzero_iff]

theorem laneFits_eq_false_iff (hopc : opcField x.word = m.opcode) :
    x.laneFits = false ↔ x.data.kind ≠ m.laneIn := by
  rw [← Bool.not_eq_true, laneFits_iff hopc]

/-- `checkedRow` with its conditions as the checks on the transaction. -/
theorem checkedRow_eq_ite (hm : Mnemonic.ofOpcode (opcField x.word) = some m) :
    checkedRow x = if x.reservedClear = false then .error .reservedNonzero
      else if x.unusedAClear = false then .error .unusedANonzero
      else if x.unusedBClear = false then .error .unusedBNonzero
      else if x.laneFits = false then .error .wrongLane
      else .ok m := by
  have hopc := ofOpcode_eq_some_iff.1 hm
  simp only [checkedRow, hm, reservedClear_eq_false_iff, unusedAClear_eq_false_iff hopc,
    unusedBClear_eq_false_iff hopc, laneFits_eq_false_iff hopc]

end Order

/-- Settles O52: `checkedRow_eq_ite` is R90's list of checks, read in its order. -/
theorem decodeChecksInOrder : Obligations.DecodeChecksInOrder := by
  refine fun x => ⟨decode_undefinedOpcode, fun hdef hrsv => ?_, fun hdef hrsv hA => ?_, fun hdef hrsv hA hB => ?_,
    fun hdef hrsv hA hB hlane => ?_⟩
  all_goals
    obtain ⟨m, hm⟩ := exists_mnemonic_of_opcodeDefined hdef
    apply decode_of_checkedRow_error
    rw [checkedRow_eq_ite hm]
  · rw [if_pos hrsv]
  · rw [if_neg (by simp [hrsv]), if_pos hA]
  · rw [if_neg (by simp [hrsv]), if_neg (by simp [hA]), if_pos hB]
  · rw [if_neg (by simp [hrsv]), if_neg (by simp [hA]), if_neg (by simp [hB]), if_pos hlane]

/-- Settles O53: the seven words evaluated. -/
theorem writtenWordsDecode : Obligations.WrittenWordsDecode :=
  ⟨rfl, rfl, rfl, rfl, rfl, rfl, rfl⟩

end Sys2Proof

namespace Sys2Proof.Machine

/-! ### Runs (R48, R49, R71) -/

section Runs

variable {i : Instr} {is js : List Instr} {s t : State}

theorem execAll_cons_of_next (h : exec i s = .next t) : execAll (i :: is) s = execAll is t := by
  simp only [execAll, h]

theorem execAll_append_of_next (h : execAll is s = .next t) : execAll (is ++ js) s = execAll js t := by
  induction is generalizing s with
  | nil =>
    obtain rfl : s = t := Host.Outcome.next.inj h
    rfl
  | cons i is ih =>
    obtain ⟨c, d, u, hexec, -⟩ := exec_hasEffect i s
    rw [execAll_cons_of_next hexec] at h
    rw [List.cons_append, execAll_cons_of_next hexec, ih h]

theorem run_succ_of_next {k : Nat} (h : step s = .next t) : core.run (k + 1) s = core.run k t := by
  have hstep : core.step s = .next t := h
  simp only [Host.Core.run, hstep]

theorem with_empty_port (h : s.port = []) : { s with port := [] } = s := by
  rw [← h]

/-- A run with the encodings of commands waiting, and no others, is those commands executed in order: each is taken from
the head of the port, and does the same with the others waiting behind it. -/
theorem run_eq_execAll (is : List Instr) {s : State} (h : s.port = is.map encode) :
    core.run is.length s = execAll is { s with port := [] } := by
  induction is generalizing s with
  | nil => exact congrArg Host.Outcome.next (with_empty_port h).symm
  | cons i is ih =>
    obtain ⟨c, d, u, hexec, -⟩ := exec_hasEffect i { s with port := [] }
    have hstep : step s = .next { respond c d u with port := is.map encode } :=
      (step_of_decode_ok h (decode_encode i)).trans (exec_of_port (s := { s with port := [] }) _ hexec)
    have hport : (respond c d u).port = [] := exec_keeps_port hexec
    rw [execAll_cons_of_next hexec, List.length_cons, run_succ_of_next hstep, ih rfl]
    exact congrArg _ (with_empty_port hport)

end Runs

/-- Settles O57: the presented encodings are all that the port holds (`run_eq_execAll`). -/
theorem runIsTheCommandsInOrder : Obligations.RunIsTheCommandsInOrder := by
  intro is s hport
  have hpresent : (present (is.map encode) s).port = is.map encode := by
    rw [present_port, hport, List.nil_append]
  have hrun := run_eq_execAll is hpresent
  rw [runTransactions, List.length_map, hrun]
  exact congrArg _ (with_empty_port hport)

/-! ### The assembler's ranges (R91) -/

section Assembler

variable {n : Nat} {p q : AsmOperand}

/-- The operand is an integer, decimal or hexadecimal (R91). -/
def IsInteger (p : AsmOperand) (n : Nat) : Prop := p = .num n ∨ p = .hex n

theorem IsInteger.intOperand_eq (hp : IsInteger p n) : intOperand p = some n := by
  rcases hp with rfl | rfl
  · rfl
  · rfl

theorem byteOperand_oversized (hp : IsInteger p n) (hn : 255 < n) : byteOperand p = .error .outOfRange := by
  have hfits : ¬ fitsByte n = true := by
    simp only [fitsByte, decide_eq_true_eq]
    omega
  simp only [byteOperand, hp.intOperand_eq, if_neg hfits]

theorem byteOperand_fits (hp : IsInteger p n) (hn : n ≤ 255) : byteOperand p = .ok (BitVec.ofNat 8 n) := by
  have hfits : fitsByte n = true := decide_eq_true (Nat.lt_succ_of_le hn)
  simp only [byteOperand, hp.intOperand_eq, if_pos hfits]

theorem wordOperand_oversized (hp : IsInteger p n) (hn : 2 ^ 32 ≤ n) : wordOperand p = .error .outOfRange := by
  have hfits : ¬ fitsWord n = true := by
    simp only [fitsWord, decide_eq_true_eq]
    omega
  simp only [wordOperand, hp.intOperand_eq, if_neg hfits]

/-- A register operand that is a number is read as any 8-bit operand. -/
theorem IsInteger.regOperand_eq (hp : IsInteger p n) (names : List (String × Byte)) :
    regOperand names p = byteOperand p := by
  rcases hp with rfl | rfl
  · rfl
  · rfl

theorem regOperand_oversized (names : List (String × Byte)) (hp : IsInteger p n) (hn : 255 < n) :
    regOperand names p = .error .outOfRange := by
  rw [hp.regOperand_eq, byteOperand_oversized hp hn]

theorem regOperand_fits (names : List (String × Byte)) (hp : IsInteger p n) (hn : n ≤ 255) :
    regOperand names p = .ok (BitVec.ofNat 8 n) := by
  rw [hp.regOperand_eq, byteOperand_fits hp hn]

/-- A line of a mnemonic of R87 is assembled by that mnemonic's row. -/
theorem assemble_eq_of_lookup {name : String} {m : Mnemonic} (h : mnemonicNames.lookup name = some m)
    (ops : List AsmOperand) : assemble ⟨name, ops⟩ = assembleOp m ops := by
  simp only [assemble, h]

/-- In every place of an 8-bit operand, the operand before it in range, a number over 255 is an error. -/
theorem assemble_oversized_byte (o : AsmOperand) (hn : 255 < n) (hp : IsInteger p n) :
    assemble ⟨"BUF_WR", [p, o]⟩ = .error .outOfRange ∧ assemble ⟨"BUF_RD", [p]⟩ = .error .outOfRange ∧
    assemble ⟨"CRC_BYTE", [p]⟩ = .error .outOfRange ∧ assemble ⟨"MOD_BYTE", [p]⟩ = .error .outOfRange ∧
    assemble ⟨"REG_RD", [p]⟩ = .error .outOfRange ∧ assemble ⟨"SREG_RD", [p]⟩ = .error .outOfRange ∧
    assemble ⟨"REG_WR", [p, o]⟩ = .error .outOfRange ∧
    ∀ (a : Nat) (q : AsmOperand), a ≤ 255 → IsInteger q a →
      assemble ⟨"BUF_WR", [q, p]⟩ = .error .outOfRange := by
  have hbyte := byteOperand_oversized hp hn
  have hreg (names) := regOperand_oversized names hp hn
  refine ⟨?_, ?_, ?_, ?_, ?_, ?_, ?_, fun a q ha hq => ?_⟩
  · rw [assemble_eq_of_lookup (m := .bufWr) rfl, assembleOp, hbyte]
    rfl
  · rw [assemble_eq_of_lookup (m := .bufRd) rfl, assembleOp, hbyte]
    rfl
  · rw [assemble_eq_of_lookup (m := .crcByte) rfl, assembleOp, hbyte]
    rfl
  · rw [assemble_eq_of_lookup (m := .modByte) rfl, assembleOp, hbyte]
    rfl
  · rw [assemble_eq_of_lookup (m := .regRd) rfl, assembleOp, hreg]
    rfl
  · rw [assemble_eq_of_lookup (m := .sregRd) rfl, assembleOp, hreg]
    rfl
  · rw [assemble_eq_of_lookup (m := .regWr) rfl, assembleOp, hreg]
    rfl
  · rw [assemble_eq_of_lookup (m := .bufWr) rfl, assembleOp, byteOperand_fits hq ha, hbyte]
    rfl

/-- In every place of a 32-bit operand, likewise from 2^32 on. -/
theorem assemble_oversized_word (hn : 2 ^ 32 ≤ n) (hp : IsInteger p n) :
    assemble ⟨"CRC_CHECK", [p]⟩ = .error .outOfRange ∧ assemble ⟨"PKT_CHECK", [p]⟩ = .error .outOfRange ∧
    ∀ (a : Nat) (q : AsmOperand), a ≤ 255 → IsInteger q a →
      assemble ⟨"REG_WR", [q, p]⟩ = .error .outOfRange := by
  have hword := wordOperand_oversized hp hn
  refine ⟨?_, ?_, fun a q ha hq => ?_⟩
  · rw [assemble_eq_of_lookup (m := .crcCheck) rfl, assembleOp, hword]
    rfl
  · rw [assemble_eq_of_lookup (m := .pktCheck) rfl, assembleOp, hword]
    rfl
  · rw [assemble_eq_of_lookup (m := .regWr) rfl, assembleOp, regOperand_fits _ hq ha, hword]
    rfl

/-- A pseudo-instruction expands exactly where its size condition holds (R92). -/
theorem exists_expandPseudo_iff (p : Pseudo) : (∃ is, expandPseudo p = .ok is) ↔ p.wellFormed = true := by
  cases h : p.wellFormed with
  | true => simp [expandPseudo, h]
  | false => simp [expandPseudo, h]

end Assembler

/-- Settles O55: each operand's own range check, the operand before it passing its own. -/
theorem oversizedOperandsAreAssemblyErrors : Obligations.OversizedOperandsAreAssemblyErrors :=
  ⟨fun _ _ o hn hp => assemble_oversized_byte o hn hp, fun _ _ hn hp => assemble_oversized_word hn hp,
    fun _ _ => (exists_expandPseudo_iff _).trans decide_eq_true_iff,
    fun _ _ _ => (exists_expandPseudo_iff _).trans decide_eq_true_iff,
    fun _ => (exists_expandPseudo_iff _).trans decide_eq_true_iff⟩

/-! ### The configuration after either reset (R250) -/

/-- The configuration's reset values. -/
def resetCfg : Cfg := ⟨48000, 1200, 1200, 2400⟩

theorem resetCfg_legal : cfgLegal resetCfg = true := rfl

theorem resetCfg_spb : spb resetCfg = 40 := rfl

theorem resetCfg_binIndex_false : binIndex resetCfg false = 1 := rfl

theorem resetCfg_binIndex_true : binIndex resetCfg true = 2 := rfl

theorem coeff_resetCfg {α : Type} (N : Numerics α) (v : Bool) :
    coeff N resetCfg v = N.gcoeff (if v then 2 else 1) 40 := by
  cases v with
  | false => rw [coeff, if_pos resetCfg_legal, resetCfg_spb, resetCfg_binIndex_false, if_neg Bool.false_ne_true]
  | true => rw [coeff, if_pos resetCfg_legal, resetCfg_spb, resetCfg_binIndex_true, if_pos rfl]

/-- Settles O2: the registers after either reset are RESET's, and the computed ones follow from their configuration. -/
theorem computedRegistersAfterReset : Obligations.ComputedRegistersAfterReset := by
  intro t ht
  obtain ⟨s, r, rfl⟩ := exists_eq_resetRegisters ht
  have hcrc : (0xFFFFFFFF : Word) ^^^ Config.crcXorOut = 0 := by decide
  have hstatus : ((0 : BitVec 29) ++ BitVec.ofBool (cfgLegal resetCfg) ++ BitVec.ofBool false ++ BitVec.ofBool false :
      Word) = 4 := by
    rw [resetCfg_legal]
    rfl
  exact ⟨hstatus, resetCfg_legal, congrArg (BitVec.ofNat 32) resetCfg_spb,
    congrArg (BitVec.ofNat 32) resetCfg_binIndex_false, congrArg (BitVec.ofNat 32) resetCfg_binIndex_true, hcrc,
    coeff_resetCfg _ false, coeff_resetCfg _ true⟩

end Sys2Proof.Machine
end

section
/-! PROOFS. The CRC register: the byte step is eight bit steps, and it is injective in the register and in the byte, so
that a checksum tells any change of one byte (R121 to R123, R127, R128). -/

namespace Sys2Proof.Machine

/-! ### The shift loop (R121) -/

theorem crcShifts_succ (n : Nat) (c : Word) : crcShifts (n + 1) c = crcShift (crcShifts n c) := by
  induction n generalizing c with
  | zero => rfl
  | succ n ih => rw [crcShifts, ih, ← crcShifts]

/-- An even summand is only shifted. -/
theorem crcShift_xor_even (x : Word) {z : Word} (hz : z.getLsbD 0 = false) :
    crcShift (x ^^^ z) = crcShift x ^^^ (z >>> 1) := by
  have hbit : (x ^^^ z).getLsbD 0 = x.getLsbD 0 := by rw [BitVec.getLsbD_xor, hz, Bool.xor_false]
  have hshift : (x ^^^ z) >>> 1 = x >>> 1 ^^^ z >>> 1 := BitVec.ushiftRight_xor_distrib x z 1
  simp only [crcShift, hbit, hshift]
  split
  · rw [BitVec.xor_assoc, BitVec.xor_assoc, BitVec.xor_comm (z >>> 1)]
  · rfl

/-- A summand with its low `n` bits 0 is only shifted by `n` turns. -/
theorem crcShifts_xor_of_low_zero (n : Nat) (x : Word) {z : Word} (hz : ∀ i < n, z.getLsbD i = false) :
    crcShifts n (x ^^^ z) = crcShifts n x ^^^ (z >>> n) := by
  induction n with
  | zero => simp [crcShifts]
  | succ n ih =>
    have heven : (z >>> n).getLsbD 0 = false := by
      rw [BitVec.getLsbD_ushiftRight]
      exact hz n (Nat.lt_succ_self n)
    rw [crcShifts_succ, crcShifts_succ, ih fun i hi => hz i (Nat.lt_succ_of_lt hi), crcShift_xor_even _ heven,
      BitVec.shiftRight_add]

/-- The low byte of a register and the rest of it. -/
theorem low_xor_high (y : Word) : (y.setWidth 8).setWidth 32 ^^^ ((y >>> 8) <<< 8) = y := by
  apply BitVec.eq_of_getLsbD_eq
  intro i hi
  simp only [BitVec.getLsbD_xor, BitVec.getLsbD_setWidth, BitVec.getLsbD_shiftLeft, BitVec.getLsbD_ushiftRight]
  by_cases h8 : i < 8
  · simp [h8, hi]
  · simp [h8, hi, Nat.add_sub_cancel' (Nat.not_lt.1 h8)]

theorem wide_getLsbD (b : Byte) (i : Nat) : (b.setWidth 32).getLsbD i = b.getLsbD i := by
  rw [BitVec.getLsbD_setWidth]
  by_cases hi : i < 32
  · simp [hi]
  · simp [BitVec.getLsbD_of_ge b i (by omega)]

theorem wide_ushiftRight_eight (b : Byte) : b.setWidth 32 >>> 8 = 0 := by
  apply BitVec.eq_of_getLsbD_eq
  intro i _
  rw [BitVec.getLsbD_ushiftRight, wide_getLsbD, BitVec.getLsbD_of_ge b (8 + i) (by omega), BitVec.ofNat_eq_ofNat,
    BitVec.getLsbD_zero]

theorem crcShifts_eight (y : Word) : crcShifts 8 y = crcTable (y.setWidth 8) ^^^ (y >>> 8) := by
  have hzero : ∀ i < 8, ((y >>> 8) <<< 8).getLsbD i = false := fun i hi => by
    simp [BitVec.getLsbD_shiftLeft, hi]
  have hback : ((y >>> 8) <<< 8) >>> 8 = y >>> 8 := by
    apply BitVec.eq_of_toNat_eq
    have hy : y.toNat < 2 ^ 32 := y.isLt
    simp only [BitVec.toNat_ushiftRight, BitVec.toNat_shiftLeft, Nat.shiftRight_eq_div_pow, Nat.shiftLeft_eq]
    omega
  calc crcShifts 8 y
    _ = crcShifts 8 ((y.setWidth 8).setWidth 32 ^^^ ((y >>> 8) <<< 8)) := by rw [low_xor_high]
    _ = crcTable (y.setWidth 8) ^^^ (y >>> 8) := by rw [crcShifts_xor_of_low_zero 8 _ hzero, hback]; rfl

/-- The byte step is eight turns of the loop on the register with the byte added in (R122). -/
theorem crcStep_eq_shifts (c : Word) (b : Byte) : crcStep c b = crcShifts 8 (c ^^^ b.setWidth 32) := by
  have hbyte : (c ^^^ b.setWidth 32) >>> 8 = c >>> 8 := by
    rw [BitVec.ushiftRight_xor_distrib, wide_ushiftRight_eight]
    exact BitVec.xor_zero
  rw [crcShifts_eight, hbyte, crcStep]

/-- One bit step of the reflected polynomial (R122). -/
def crcBitStep (b : Byte) (d : Word) (j : Nat) : Word :=
  if (d.getLsbD 0 ^^ b.getLsbD j) then (d >>> 1) ^^^ 0xEDB88320 else d >>> 1

/-- The register after `n` bit steps: the byte's bits that are still to come are not added in yet. -/
theorem foldl_crcBitStep (c : Word) (b : Byte) (n : Nat) :
    (List.range n).foldl (crcBitStep b) c = crcShifts n (c ^^^ b.setWidth 32) ^^^ (b.setWidth 32 >>> n) := by
  induction n with
  | zero => simp [crcShifts]
  | succ n ih =>
    set x := crcShifts n (c ^^^ b.setWidth 32) with hx
    have hbit : ((x ^^^ b.setWidth 32 >>> n).getLsbD 0 ^^ b.getLsbD n) = x.getLsbD 0 := by
      rw [BitVec.getLsbD_xor, BitVec.getLsbD_ushiftRight, wide_getLsbD, Nat.add_zero, Bool.xor_assoc, Bool.xor_self,
        Bool.xor_false]
    rw [List.range_succ, List.foldl_append, ih, List.foldl_cons, List.foldl_nil, crcBitStep, hbit, crcShifts_succ,
      ← hx, BitVec.ushiftRight_xor_distrib, ← BitVec.shiftRight_add, crcShift]
    split
    · rw [BitVec.xor_assoc, BitVec.xor_assoc, BitVec.xor_comm (b.setWidth 32 >>> (n + 1))]
      rfl
    · rfl

/-! ### The register tells bytes apart (R128) -/

/-- The polynomial's top bit is set, so the top bit after a turn tells the bit that was shifted out. -/
theorem crcShift_getLsbD_top (c : Word) : (crcShift c).getLsbD 31 = c.getLsbD 0 := by
  have htop : (c >>> 1).getLsbD 31 = false := by simp
  have hpoly : Config.crcPoly.getLsbD 31 = true := by decide
  rw [crcShift]
  split
  next h => rw [BitVec.getLsbD_xor, htop, hpoly, h, Bool.false_xor]
  next h => rw [htop, Bool.eq_false_of_not_eq_true h]

theorem crcShift_injective : Function.Injective crcShift := by
  intro a b h
  have hbit : a.getLsbD 0 = b.getLsbD 0 := by rw [← crcShift_getLsbD_top, ← crcShift_getLsbD_top, h]
  have hshift : a >>> 1 = b >>> 1 := by
    simp only [crcShift, hbit] at h
    split at h
    · exact (BitVec.xor_left_inj _).1 h
    · exact h
  apply BitVec.eq_of_getLsbD_eq
  intro i hi
  cases i with
  | zero => exact hbit
  | succ i => simpa [BitVec.getLsbD_ushiftRight, Nat.add_comm] using congrArg (BitVec.getLsbD · i) hshift

theorem crcShifts_injective (n : Nat) : Function.Injective (crcShifts n) := by
  induction n with
  | zero => exact fun _ _ h => h
  | succ n ih => exact fun a b h => crcShift_injective (ih h)

theorem crcStep_left_injective (b : Byte) : Function.Injective (crcStep · b) := fun c d h => by
  simp only [crcStep_eq_shifts] at h
  exact (BitVec.xor_left_inj _).1 (crcShifts_injective 8 h)

theorem crcStep_right_injective (c : Word) : Function.Injective (crcStep c) := fun a b h => by
  rw [crcStep_eq_shifts, crcStep_eq_shifts] at h
  have hwide := (BitVec.xor_right_inj _).1 (crcShifts_injective 8 h)
  simpa using congrArg (BitVec.setWidth 8) hwide

theorem crcFold_injective (bs : List Byte) : Function.Injective (crcFold · bs) := by
  induction bs with
  | nil => exact fun _ _ h => h
  | cons b bs ih => exact fun c d h => crcStep_left_injective b (ih h)

/-- Two byte sequences that differ in one byte have different checksums. -/
theorem crc32_ne_of_byte_ne (front back : List Byte) {a b : Byte} (h : a ≠ b) :
    crc32 (front ++ a :: back) ≠ crc32 (front ++ b :: back) := by
  intro heq
  have hfold := (BitVec.xor_left_inj _).1 heq
  simp only [crcFold, List.foldl_append, List.foldl_cons] at hfold
  exact h (crcStep_right_injective _ (crcFold_injective back hfold))

theorem flip_bit_ne (b : Byte) {k : Nat} (hk : k < 8) : b ^^^ (1 <<< k) ≠ b := by
  have hbit : (1 <<< k : Byte) ≠ 0 := by interval_cases k <;> decide
  intro h
  exact hbit ((BitVec.xor_right_inj _).1 (h.trans (BitVec.xor_zero).symm))

/-! ### The CRC sequence (R127) -/

theorem append_replicate_succ {β : Type} (l : List β) (x : β) (n : Nat) :
    l ++ List.replicate (n + 1) x = (l ++ [x]) ++ List.replicate n x := by
  rw [List.replicate_succ, List.append_assoc, List.singleton_append]

theorem execAll_crcBytes (bs : List Byte) (s : State) :
    execAll (bs.map .crcByte) s = .next { s with
      crcState := crcFold s.crcState bs
      responses := s.responses ++ List.replicate bs.length ⟨.ok, .none⟩ } := by
  induction bs generalizing s with
  | nil => simp [execAll, crcFold]
  | cons b bs ih =>
    have hexec : exec (.crcByte b) s = .next (respond .ok .none { s with crcState := crcStep s.crcState b }) := rfl
    rw [List.map_cons, execAll_cons_of_next hexec, ih, List.length_cons, append_replicate_succ]
    rfl

/-! ### The statements -/

/-- Settles O10: the table by its loop, the two functions by their definitions, the spec's values by evaluation. -/
theorem crcTableAndFunction : Obligations.CrcTableAndFunction :=
  ⟨fun _ => rfl, by decide +kernel, by decide +kernel, by decide +kernel, by decide +kernel, by decide +kernel,
    by decide +kernel, by decide +kernel, by decide +kernel, by decide +kernel, fun _ _ => rfl, fun _ => rfl,
    by decide +kernel, by decide +kernel⟩

/-- Settles O11: after eight bit steps no bit of the byte is still to come. -/
theorem crcStepIsEightBitSteps : Obligations.CrcStepIsEightBitSteps := by
  intro c b
  have hsteps := foldl_crcBitStep c b 8
  rw [wide_ushiftRight_eight, BitVec.ofNat_eq_ofNat, BitVec.xor_zero, ← crcStep_eq_shifts] at hsteps
  exact hsteps.symm

/-- Settles O12: CRC_INIT, and then the bytes one by one. -/
theorem crcSequenceComputesCrc32 : Obligations.CrcSequenceComputesCrc32 := by
  intro bs s
  have hinit : exec .crcInit s = .next (respond .ok .none { s with crcState := Config.crcInit }) := rfl
  have hall := (execAll_cons_of_next hinit).trans (execAll_crcBytes bs _)
  refine ⟨_, hall, ?_, rfl⟩
  rw [append_replicate_succ]
  rfl

/-- Settles O13: a flipped bit makes another byte. -/
theorem crcDetectsEverySingleBitError : Obligations.CrcDetectsEverySingleBitError :=
  fun front back b _ hk => crc32_ne_of_byte_ne front back (flip_bit_ne b hk)

end Sys2Proof.Machine
end

section
/-! PROOFS. PKT_SEAL and PKT_CHECK of a frame that is written, PKT_BUILD and what PKT_CHECK answers for it, and for an
accepted frame with one bit flipped (R145 to R149). -/

namespace Sys2Proof.Machine

/-! ### Bytes of PBUF as lists -/

section Bytes

variable {s : State} {a : Nat} {xs ys : List Byte}

/-- The byte at an address, 0 where none was ever written. -/
def pbufByte (s : State) (x : Nat) : Byte := (s.pbuf.find x).getD 0

/-- The addresses from `a` to before `b` are written. -/
def WrittenFrom (s : State) (a b : Nat) : Prop := ∀ x, a ≤ x → x < b → s.pbuf.find x = some (pbufByte s x)

theorem pbufByte_of_find {x : Nat} {v : Byte} (h : s.pbuf.find x = some v) : pbufByte s x = v := by
  rw [pbufByte, h, Option.getD_some]

theorem HoldsBytes.find_eq (h : HoldsBytes s a xs) {j : Nat} (hj : j < xs.length) :
    s.pbuf.find (a + j) = some xs[j] :=
  h j _ (List.getElem?_eq_getElem hj)

theorem HoldsBytes.writtenFrom (h : HoldsBytes s a xs) : WrittenFrom s a (a + xs.length) := by
  intro x hle hlt
  obtain ⟨j, rfl⟩ := Nat.exists_eq_add_of_le hle
  have hfind := h.find_eq (by omega : j < xs.length)
  rw [pbufByte_of_find hfind, hfind]

theorem HoldsBytes.writtenFrom_zero (h : HoldsBytes s 0 xs) : WrittenFrom s 0 xs.length :=
  Nat.zero_add xs.length ▸ h.writtenFrom

/-- The bytes held are those that PBUF gives at their addresses. -/
theorem HoldsBytes.map_pbufByte (h : HoldsBytes s a xs) :
    (List.range xs.length).map (fun j => pbufByte s (a + j)) = xs :=
  List.ext_getElem (by simp) fun j _ hj => by simp [pbufByte_of_find (h.find_eq hj)]

theorem HoldsBytes.append (hx : HoldsBytes s a xs) (hy : HoldsBytes s (a + xs.length) ys) :
    HoldsBytes s a (xs ++ ys) := by
  intro j v hj
  by_cases hlt : j < xs.length
  · rw [List.getElem?_append_left hlt] at hj
    exact hx j v hj
  · rw [List.getElem?_append_right (Nat.not_lt.1 hlt)] at hj
    have hfind := hy (j - xs.length) v hj
    rwa [Nat.add_assoc, Nat.add_sub_cancel' (Nat.not_lt.1 hlt)] at hfind

theorem HoldsBytes.of_find_eq {t : State} (h : HoldsBytes s a xs)
    (hsame : ∀ x, a ≤ x → x < a + xs.length → t.pbuf.find x = s.pbuf.find x) : HoldsBytes t a xs := by
  intro j v hj
  have hlt : j < xs.length := (List.getElem?_eq_some_iff.1 hj).1
  rw [hsame (a + j) (Nat.le_add_right a j) (Nat.add_lt_add_left hlt a)]
  exact h j v hj

/-- Reads of written bytes give what PBUF holds and change nothing. -/
theorem memReads_of_written {as : List Byte} (h : ∀ x ∈ as, s.pbuf.find x.toNat = some (pbufByte s x.toNat)) :
    memReads as s = (as.map fun x => pbufByte s x.toNat, s) :=
  memReads_written (by rw [List.map_map]; exact List.map_congr_left h)

theorem readsAs_of_written {as : List Byte} (h : ∀ x ∈ as, s.pbuf.find x.toNat = some (pbufByte s x.toNat)) :
    ReadsAs (pbufByte s) as s ∧ (memReads as s).2 = s := by
  rw [ReadsAs, memReads_of_written h]
  exact ⟨rfl, rfl⟩

/-- A part of a sequence given by its places. -/
theorem slice_map_range {β : Type} (v : Nat → β) {n a k : Nat} (h : a + k ≤ n) :
    (((List.range n).map v).drop a).take k = (List.range k).map fun j => v (a + j) :=
  List.ext_getElem (by simp; omega) fun j _ _ => by simp

/-- One place set, in a sequence given by its places. -/
theorem map_range_update {β : Type} (v : Nat → β) (n i : Nat) (x : β) :
    (List.range n).map (Function.update v i x) = ((List.range n).map v).set i x := by
  refine List.ext_getElem (by simp) fun j _ _ => ?_
  by_cases hj : j = i
  · subst hj
    simp
  · simp [Function.update_of_ne hj, List.getElem_set_of_ne (Ne.symm hj)]

end Bytes

/-! ### Big-endian numbers (R9) -/

section BigEndian

theorem readBE_be32 (c : Word) : readBE (be32 c) = c.toNat := by
  have hc : c.toNat < 2 ^ 32 := c.isLt
  simp only [readBE, be32, List.foldl_cons, List.foldl_nil, BitVec.extractLsb'_toNat, Nat.shiftRight_eq_div_pow]
  omega

theorem readBE_be16 {n : Nat} (hn : n < 2 ^ 16) : readBE (be16 (BitVec.ofNat 16 n)) = n := by
  simp only [readBE, be16, List.foldl_cons, List.foldl_nil, BitVec.extractLsb'_toNat, Nat.shiftRight_eq_div_pow,
    BitVec.toNat_ofNat]
  omega

/-- A number of four bytes tells each of them. -/
theorem readBE_four (a b c d : Byte) :
    readBE [a, b, c, d] = ((a.toNat * 256 + b.toNat) * 256 + c.toNat) * 256 + d.toNat := by
  simp [readBE]

end BigEndian

/-! ### PKT_SEAL and PKT_CHECK on written bytes -/

section Written

variable {s : State} {m : Word} {len : Nat}

/-- The bytes a frame covers (R142), for a reading of PBUF. -/
def coveredBytes (len : Nat) (v : Nat → Byte) : List Byte :=
  (List.range 7).map v ++ (List.range len).map fun j => v (11 + j)

theorem coveredCrc_eq (len : Nat) (v : Nat → Byte) : coveredCrc len v = crc32 (coveredBytes len v) := rfl

theorem mem_payloadAddrs_range (hlen : len ≤ 245) {a : Byte} (ha : a ∈ payloadAddrs len) :
    11 ≤ a.toNat ∧ a.toNat < 11 + len := by
  obtain ⟨j, hj, rfl⟩ := List.mem_map.1 ha
  have hlt := List.mem_range.1 hj
  rw [payloadAddr_toNat hlen hlt]
  omega

theorem mem_sealAddrs_range (hlen : len ≤ 245) {a : Byte} (ha : a ∈ sealAddrs len) :
    a.toNat < 7 ∨ 11 ≤ a.toNat ∧ a.toNat < 11 + len := by
  have hheader : ∀ x ∈ lengthAddrs ++ ([0, 1, 2, 3, 4] : List Byte), x.toNat < 7 := by decide
  rw [sealAddrs, ← List.append_assoc] at ha
  rcases List.mem_append.1 ha with ha | ha
  · exact .inl (hheader a ha)
  · exact .inr (mem_payloadAddrs_range hlen ha)

theorem mem_verifyAddrs_range (hlen : len ≤ 245) {a : Byte} (ha : a ∈ verifyAddrs len) : a.toNat < 11 + len := by
  have hheader : ∀ x ∈ ([0, 1, 2, 3, 4, 5, 6] : List Byte), x.toNat < 11 := by decide
  have hsum : ∀ x ∈ checksumAddrs, x.toNat < 11 := by decide
  rcases List.mem_append.1 ha with ha | ha
  · rcases List.mem_append.1 ha with ha | ha
    · exact (hheader a ha).trans_le (Nat.le_add_right 11 len)
    · exact (mem_payloadAddrs_range hlen ha).2
  · exact (hsum a ha).trans_le (Nat.le_add_right 11 len)

theorem runPktSeal_of_written (hlen : declaredLen (pbufByte s) ≤ 245) (hhead : WrittenFrom s 0 7)
    (hpay : WrittenFrom s 11 (11 + declaredLen (pbufByte s))) :
    runPktSeal s = .next (respond .ok (.u32 (coveredCrc (declaredLen (pbufByte s)) (pbufByte s)))
      (recordPacket (declaredLen (pbufByte s)) (coveredCrc (declaredLen (pbufByte s)) (pbufByte s))
        (memWrites 7 (be32 (coveredCrc (declaredLen (pbufByte s)) (pbufByte s))) s))) := by
  have hwritten : ∀ x ∈ sealAddrs (declaredLen (pbufByte s)), s.pbuf.find x.toNat = some (pbufByte s x.toNat) := by
    intro x hx
    rcases mem_sealAddrs_range hlen hx with h | ⟨h11, h⟩
    · exact hhead _ (Nat.zero_le _) h
    · exact hpay _ h11 h
  obtain ⟨hreads, hstate⟩ := readsAs_of_written hwritten
  have hseals := runPktSeal_seals hreads hlen
  rwa [hstate] at hseals

theorem readsAs_length (h5 : WrittenFrom s 5 7) :
    ReadsAs (pbufByte s) lengthAddrs s ∧ (memReads lengthAddrs s).2 = s := by
  have hrange : ∀ x ∈ lengthAddrs, 5 ≤ x.toNat ∧ x.toNat < 7 := by decide
  exact readsAs_of_written fun x hx => h5 _ (hrange x hx).1 (hrange x hx).2

theorem runPktCheck_misframed (hmin : 11 ≤ m.toNat) (hmax : m.toNat ≤ 256) (h5 : WrittenFrom s 5 7)
    (hlong : declaredLen (pbufByte s) > m.toNat - 11) :
    runPktCheck m s = .next (respond .framingError .none s) := by
  obtain ⟨hreads, hstate⟩ := readsAs_length h5
  rw [runPktCheck_of_readsAs hreads hmin hmax, if_pos hlong, hstate]

/-- PKT_CHECK's verdict on the checksum, where the frame that it is told of is written. -/
theorem runPktCheck_of_written (hmin : 11 ≤ m.toNat) (hmax : m.toNat ≤ 256)
    (hfits : declaredLen (pbufByte s) ≤ m.toNat - 11) (hframe : WrittenFrom s 0 (11 + declaredLen (pbufByte s))) :
    runPktCheck m s = .next (respond
      (if (coveredCrc (declaredLen (pbufByte s)) (pbufByte s)).toNat =
          readBE [pbufByte s 7, pbufByte s 8, pbufByte s 9, pbufByte s 10] then .ok else .integrityError)
      (.u32 (coveredCrc (declaredLen (pbufByte s)) (pbufByte s)))
      (recordPacket (declaredLen (pbufByte s)) (coveredCrc (declaredLen (pbufByte s)) (pbufByte s)) s)) := by
  have hlen : declaredLen (pbufByte s) ≤ 245 := by omega
  have h5 : WrittenFrom s 5 7 := fun x _ hlt => hframe x (Nat.zero_le x) (by omega)
  obtain ⟨hreads, hstate⟩ := readsAs_length h5
  obtain ⟨hverify, hsame⟩ := readsAs_of_written (s := s) fun x hx =>
    hframe _ (Nat.zero_le _) (mem_verifyAddrs_range hlen hx)
  rw [runPktCheck_of_readsAs hreads hmin hmax, if_neg (Nat.not_lt.2 hfits), hstate, verifyFrame_of_readsAs hverify hlen,
    hsame]

end Written

/-! ### A frame as a list (R140, R142) -/

section Frame

variable {s : State} {f : List Byte}

theorem HoldsBytes.eq_map_pbufByte (h : HoldsBytes s 0 f) : f = (List.range f.length).map (pbufByte s) := by
  conv_lhs => rw [← h.map_pbufByte]
  simp only [Nat.zero_add]

/-- The length field of a sequence given by its places. -/
theorem readBE_lengthField (v : Nat → Byte) {n : Nat} (hn : 11 ≤ n) :
    readBE ((((List.range n).map v).drop 5).take 2) = declaredLen v := by
  rw [slice_map_range v (by omega)]
  simp [readBE, declaredLen, List.range_succ]

/-- The checksum field of a sequence given by its places. -/
theorem checksumField (v : Nat → Byte) {n : Nat} (hn : 11 ≤ n) :
    (((List.range n).map v).drop 7).take 4 = [v 7, v 8, v 9, v 10] := by
  rw [slice_map_range v (by omega)]
  rfl

theorem covered_map_range (v : Nat → Byte) {n : Nat} (hn : 11 + declaredLen v ≤ n) :
    covered ((List.range n).map v) = coveredBytes (declaredLen v) v := by
  have hhead := slice_map_range v (n := n) (a := 0) (k := 7) (by omega)
  have hpay := slice_map_range v (n := n) (a := 11) (k := declaredLen v) hn
  simp only [List.drop_zero, Nat.zero_add] at hhead
  rw [covered, readBE_lengthField v (by omega), hhead, Config.headerLen, hpay, coveredBytes]

end Frame

/-! ### BUF_FILL (R92, R143) -/

section Fill

/-- BUF_FILL stores its bytes at rising addresses and leaves every other byte (R92). -/
theorem execAll_bufFill (n : Nat) (bs : List Byte) (s : State) (hfits : n + bs.length ≤ 256) :
    ∃ m : Memory, execAll (bufFill (BitVec.ofNat 8 n) bs) s = .next { s with
        pbuf := m, responses := s.responses ++ List.replicate bs.length ⟨.ok, .none⟩ } ∧
      HoldsBytes { s with pbuf := m } n bs ∧
      ∀ x, x < n ∨ n + bs.length ≤ x → m.find x = s.pbuf.find x := by
  induction bs generalizing n s with
  | nil => exact ⟨s.pbuf, by simp [bufFill, execAll], fun j v hj => by simp at hj, fun _ _ => rfl⟩
  | cons b bs ih =>
    rw [List.length_cons] at hfits
    have haddr : (BitVec.ofNat 8 n).toNat = n := Nat.mod_eq_of_lt (by omega)
    have hnext : BitVec.ofNat 8 n + 1 = BitVec.ofNat 8 (n + 1) := (BitVec.ofNat_add n 1).symm
    have hexec : exec (.bufWr (BitVec.ofNat 8 n) b) s = .next (respond .ok .none (memWrite (BitVec.ofNat 8 n) b s)) :=
      rfl
    obtain ⟨m, hall, hholds, hother⟩ := ih (n + 1) (respond .ok .none (memWrite (BitVec.ofNat 8 n) b s)) (by omega)
    have hwritten (x : Nat) (hx : x < n + 1 ∨ n + 1 + bs.length ≤ x) :
        m.find x = if x = n then some b else s.pbuf.find x := by
      rw [hother x hx, respond_pbuf, memWrite_find, haddr]
    refine ⟨m, ?_, ?_, fun x hx => ?_⟩
    · rw [bufFill, execAll_cons_of_next hexec, hnext, hall, List.length_cons, append_replicate_succ]
      rfl
    · have hfirst : HoldsBytes { s with pbuf := m } n [b] := by
        intro j v hj
        obtain ⟨rfl, rfl⟩ : j = 0 ∧ b = v := by
          cases j with
          | zero => simpa using hj
          | succ j => simp at hj
        exact (hwritten n (.inl (Nat.lt_succ_self n))).trans (if_pos rfl)
      exact hfirst.append hholds
    · rw [List.length_cons] at hx
      rw [hwritten x (by omega), if_neg (by omega)]

end Fill

/-! ### The statements about a written frame -/

/-- Settles O18: the header and the payload held are what PBUF gives at their addresses, the header's length field
with them. -/
theorem pktSealCompletesOnAWrittenFrame : Obligations.PktSealCompletesOnAWrittenFrame := by
  intro s head payload hlength hfield hmax hhead hpay
  have hheadBytes : (List.range 7).map (pbufByte s) = head := by
    rw [← hlength]
    exact hhead.eq_map_pbufByte.symm
  have hlen : declaredLen (pbufByte s) = payload.length := by
    rw [← hfield, ← hheadBytes]
    simp [readBE, declaredLen, List.range_succ]
  have hcrc : coveredCrc (declaredLen (pbufByte s)) (pbufByte s) = crc32 (head ++ payload) := by
    rw [coveredCrc_eq, coveredBytes, hheadBytes, hlen, hpay.map_pbufByte]
  have hseal := runPktSeal_of_written (s := s) (by rwa [hlen]) (hlength ▸ hhead.writtenFrom_zero)
    (hlen ▸ hpay.writtenFrom)
  rw [hcrc, hlen, memWrites_state] at hseal
  refine ⟨_, hseal, ?_, fun a ha => memWrites_checksum_find_of_ne _ s ha⟩
  intro j v hj
  show (memWrites 7 (be32 (crc32 (head ++ payload))) s).pbuf.find (7 + j) = some v
  rw [memWrites_checksum_find]
  rcases j with _ | _ | _ | _ | j
  · simpa [be32] using hj
  · simpa [be32] using hj
  · simpa [be32] using hj
  · simpa [be32] using hj
  · simp [be32] at hj

/-- Settles O20: the frame is what PBUF gives at its addresses, so that its fields are the declared length and the
stored checksum. -/
theorem pktCheckCompletesOnAWrittenFrame : Obligations.PktCheckCompletesOnAWrittenFrame := by
  intro s m f hholds hmin hfield hfits hmax
  have hframe := hholds.eq_map_pbufByte
  have hlen : declaredLen (pbufByte s) = f.length - 11 := by
    rw [← hfield, hframe, readBE_lengthField _ hmin]
  have hend : 11 + declaredLen (pbufByte s) = f.length := by omega
  have hwritten : WrittenFrom s 0 (11 + declaredLen (pbufByte s)) := by
    rw [hend]
    exact hholds.writtenFrom_zero
  have hcrc : coveredCrc (declaredLen (pbufByte s)) (pbufByte s) = checksum f := by
    rw [coveredCrc_eq, checksum, hframe, covered_map_range _ hend.le]
  have hstored : [pbufByte s 7, pbufByte s 8, pbufByte s 9, pbufByte s 10] = (f.drop 7).take 4 := by
    rw [hframe, checksumField _ hmin]
  have hcheck := runPktCheck_of_written (hmin.trans hfits) hmax (by omega) hwritten
  rw [hcrc, hstored, hlen] at hcheck
  exact hcheck

/-! ### PKT_BUILD (R92, R148) -/

section Build

theorem frameHead_length (ty : Byte) (q : Word) (p : List Byte) : (frameHead ty q p).length = 7 := rfl

/-- The header's last two bytes are the payload's length. -/
theorem readBE_frameHead (ty : Byte) (q : Word) {p : List Byte} (hp : p.length ≤ 245) :
    readBE ((frameHead ty q p).drop 5) = p.length :=
  readBE_be16 (hp.trans_lt (by decide))

/-- The checksum that PKT_BUILD leaves. -/
def builtCrc (ty : Byte) (q : Word) (p : List Byte) : Word := crc32 (frameHead ty q p ++ p)

/-- The frame that PKT_BUILD leaves in PBUF. -/
def builtFrame (ty : Byte) (q : Word) (p : List Byte) : List Byte :=
  frameHead ty q p ++ be32 (builtCrc ty q p) ++ p

theorem builtFrame_length (ty : Byte) (q : Word) (p : List Byte) : (builtFrame ty q p).length = 11 + p.length := by
  simp [builtFrame, frameHead_length, be32]
  omega

/-- PKT_BUILD leaves the frame in PBUF and its checksum recorded, and changes nothing else but the responses. -/
theorem execAll_pktBuild (ty : Byte) (q : Word) {p : List Byte} (s : State) (hp : p.length ≤ 245) :
    ∃ (m : Memory) (r : List Response),
      execAll (pseudoCommands (.pktBuild ty q p)) s = .next (respond .ok (.u32 (builtCrc ty q p)) { s with
        pbuf := m, responses := r, pktLen := BitVec.ofNat 16 p.length, pktCalc := builtCrc ty q p }) ∧
      HoldsBytes { s with pbuf := m } 0 (builtFrame ty q p) ∧
      ∀ a, 11 + p.length ≤ a → m.find a = s.pbuf.find a := by
  have hhead := frameHead_length ty q p
  obtain ⟨m₁, hfill₁, hholds₁, hother₁⟩ := execAll_bufFill 0 (frameHead ty q p) s (by rw [hhead]; omega)
  obtain ⟨m₂, hfill₂, hholds₂, hother₂⟩ := execAll_bufFill 11 p { s with
    pbuf := m₁, responses := s.responses ++ List.replicate (frameHead ty q p).length ⟨.ok, .none⟩ } (by omega)
  rw [hhead] at hother₁
  have hheader : HoldsBytes { s with pbuf := m₂ } 0 (frameHead ty q p) :=
    hholds₁.of_find_eq fun x _ hx => hother₂ x (.inl (by rw [hhead] at hx; omega))
  obtain ⟨m₃, hseal, hsum, hother₃⟩ := pktSealCompletesOnAWrittenFrame { s with
    pbuf := m₂, responses := s.responses ++ List.replicate (frameHead ty q p).length ⟨.ok, .none⟩ ++
      List.replicate p.length ⟨.ok, .none⟩ } _ p hhead (readBE_frameHead ty q hp) hp hheader hholds₂
  have hfills := (execAll_append_of_next (js := bufFill 11 p) hfill₁).trans hfill₂
  have hall := (execAll_append_of_next (js := [.pktSeal]) hfills).trans (execAll_cons_of_next (is := []) hseal)
  refine ⟨m₃, _, hall, ?_, fun a ha => ?_⟩
  · refine HoldsBytes.append (HoldsBytes.append ?_ hsum) ?_
    · exact hheader.of_find_eq fun x _ hx => hother₃ x (.inl (by rw [hhead] at hx; omega))
    · exact hholds₂.of_find_eq fun x hx _ => hother₃ x (.inr hx)
  · exact (hother₃ a (.inr (by omega))).trans ((hother₂ a (.inr ha)).trans (hother₁ a (.inr (by omega))))

/-- The checksum of the frame that PKT_BUILD leaves is the one that it holds. -/
theorem checksum_builtFrame (ty : Byte) (q : Word) {p : List Byte} (hp : p.length ≤ 245) :
    checksum (builtFrame ty q p) = builtCrc ty q p ∧
      readBE (((builtFrame ty q p).drop 5).take 2) = p.length ∧
      readBE (((builtFrame ty q p).drop 7).take 4) = (builtCrc ty q p).toNat := by
  have hlength : readBE (((builtFrame ty q p).drop 5).take 2) = p.length := readBE_frameHead ty q hp
  have hpay : ((builtFrame ty q p).drop Config.headerLen).take p.length = p := List.take_length
  refine ⟨?_, hlength, readBE_be32 _⟩
  rw [checksum, covered, hlength, hpay]
  rfl

end Build

/-! ### PKT_CHECK's verdict as a function of a reading of PBUF (R146) -/

section Verdict

variable {s : State} {m : Word} {v : Nat → Byte} {len o : Nat} {x : Byte}

/-- The stored checksum of a reading. -/
def storedSum (v : Nat → Byte) : Nat := readBE [v 7, v 8, v 9, v 10]

/-- The checksum of the covered bytes is the stored one. -/
def SumOk (v : Nat → Byte) : Prop := (coveredCrc (declaredLen v) v).toNat = storedSum v

theorem pktCheck_framingError (hmin : 11 ≤ m.toNat) (hmax : m.toNat ≤ 256) (hw : WrittenFrom s 0 m.toNat)
    (hlong : declaredLen (pbufByte s) > m.toNat - 11) :
    ∃ t r, exec (.pktCheck m) s = .next t ∧ lastResponse t = some r ∧ r.code = .framingError :=
  ⟨_, _, runPktCheck_misframed hmin hmax (fun x _ hlt => hw x (Nat.zero_le x) (by omega)) hlong,
    lastResponse_respond _ _ _, rfl⟩

theorem pktCheck_judged (hmin : 11 ≤ m.toNat) (hmax : m.toNat ≤ 256) (hw : WrittenFrom s 0 m.toNat)
    (hfits : declaredLen (pbufByte s) ≤ m.toNat - 11) :
    ∃ t r, exec (.pktCheck m) s = .next t ∧ lastResponse t = some r ∧
      (SumOk (pbufByte s) → r.code = .ok) ∧ (¬ SumOk (pbufByte s) → r.code = .integrityError) :=
  ⟨_, _, runPktCheck_of_written hmin hmax hfits fun x _ hlt => hw x (Nat.zero_le x) (by omega),
    lastResponse_respond _ _ _, fun h => if_pos h, fun h => if_neg h⟩

/-- A frame that is accepted fits and holds its checksum. -/
theorem fits_and_sumOk_of_accepted (hmin : 11 ≤ m.toNat) (hmax : m.toNat ≤ 256) (hw : WrittenFrom s 0 m.toNat)
    (h : ∃ t c, exec (.pktCheck m) s = .next t ∧ lastResponse t = some ⟨.ok, c⟩) :
    declaredLen (pbufByte s) ≤ m.toNat - 11 ∧ SumOk (pbufByte s) := by
  obtain ⟨t, c, hexec, hlast⟩ := h
  have hcode {t' : State} {r : Response} (hexec' : exec (.pktCheck m) s = .next t') (hr : lastResponse t' = some r) :
      .ok = r.code := by
    obtain rfl : t = t' := Host.Outcome.next.inj (hexec.symm.trans hexec')
    exact congrArg Response.code (Option.some.inj (hlast.symm.trans hr))
  by_cases hfits : declaredLen (pbufByte s) ≤ m.toNat - 11
  · obtain ⟨t', r, hexec', hr, -, hbad⟩ := pktCheck_judged hmin hmax hw hfits
    exact ⟨hfits, by_contra fun hsum => nomatch (hcode hexec' hr).trans (hbad hsum)⟩
  · obtain ⟨t', r, hexec', hr, hframing⟩ := pktCheck_framingError hmin hmax hw (Nat.lt_of_not_le hfits)
    exact nomatch (hcode hexec' hr).trans hframing

/-! ### One byte of a reading changed -/

theorem declaredLen_update (h5 : o ≠ 5) (h6 : o ≠ 6) : declaredLen (Function.update v o x) = declaredLen v := by
  simp only [declaredLen, Function.update_of_ne h5.symm, Function.update_of_ne h6.symm]

theorem storedSum_update (h : o < 7 ∨ 10 < o) : storedSum (Function.update v o x) = storedSum v := by
  have hne {j : Nat} (h7 : 7 ≤ j) (h10 : j ≤ 10) : j ≠ o := by omega
  simp only [storedSum, Function.update_of_ne (hne (le_refl 7) (by decide)),
    Function.update_of_ne (hne (j := 8) (by decide) (by decide)),
    Function.update_of_ne (hne (j := 9) (by decide) (by decide)),
    Function.update_of_ne (hne (j := 10) (by decide) (by decide))]

/-- Another byte in the checksum field is another stored checksum. -/
theorem storedSum_update_ne (h7 : 7 ≤ o) (h10 : o ≤ 10) (hx : x ≠ v o) :
    storedSum (Function.update v o x) ≠ storedSum v := by
  have hx' : x.toNat ≠ (v o).toNat := fun h => hx (BitVec.eq_of_toNat_eq h)
  have hlt (j : Nat) : (v j).toNat < 256 := (v j).isLt
  have hxlt : x.toNat < 256 := x.isLt
  have h7' := hlt 7
  have h8' := hlt 8
  have h9' := hlt 9
  have h10' := hlt 10
  simp only [storedSum, readBE_four]
  interval_cases o <;> simp <;> omega

theorem coveredBytes_update_header (h : o < 7) :
    coveredBytes len (Function.update v o x) = (coveredBytes len v).set o x := by
  have hpay : (fun j => Function.update v o x (11 + j)) = fun j => v (11 + j) :=
    funext fun j => Function.update_of_ne (by omega) _ _
  rw [coveredBytes, map_range_update, hpay, coveredBytes, List.set_append_left _ _ (by simpa using h)]

theorem coveredBytes_update_checksum (h7 : 7 ≤ o) (h10 : o ≤ 10) :
    coveredBytes len (Function.update v o x) = coveredBytes len v := by
  have hpay : (fun j => Function.update v o x (11 + j)) = fun j => v (11 + j) :=
    funext fun j => Function.update_of_ne (by omega) _ _
  rw [coveredBytes, map_range_update, hpay, List.set_eq_of_length_le (by simpa using h7), coveredBytes]

/-- A byte from 11 on is the payload's byte there, where the payload reaches it. -/
theorem coveredBytes_update_payload (j : Nat) :
    coveredBytes len (Function.update v (11 + j) x) = (coveredBytes len v).set (7 + j) x := by
  have hpay : (fun i => Function.update v (11 + j) x (11 + i)) = Function.update (fun i => v (11 + i)) j x := by
    funext i
    simp only [Function.update_apply, Nat.add_left_cancel_iff]
  rw [coveredBytes, map_range_update, List.set_eq_of_length_le (by simp; omega), hpay, map_range_update, coveredBytes,
    List.set_append_right _ _ (by simp), List.length_map, List.length_range, Nat.add_sub_cancel_left]

theorem coveredBytes_length (len : Nat) (v : Nat → Byte) : (coveredBytes len v).length = 7 + len := by
  simp [coveredBytes]

/-- Another byte at a place of the sequence is another checksum. -/
theorem crc32_set_ne {l : List Byte} {i : Nat} (hi : i < l.length) (hx : x ≠ l[i]) : crc32 (l.set i x) ≠ crc32 l := by
  have hsplit : l = l.take i ++ l[i] :: l.drop (i + 1) := by simp
  rw [List.set_eq_take_append_cons_drop, if_pos hi]
  conv_rhs => rw [hsplit]
  exact crc32_ne_of_byte_ne _ _ hx

theorem coveredBytes_getElem_header (h : o < 7) (ho : o < (coveredBytes len v).length) :
    (coveredBytes len v)[o] = v o := by
  simp [coveredBytes, List.getElem_append_left, h]

theorem coveredBytes_getElem_payload {j : Nat} (hj : 7 + j < (coveredBytes len v).length) :
    (coveredBytes len v)[7 + j] = v (11 + j) := by
  simp [coveredBytes, List.getElem_append_right]

/-- Another covered byte, or another byte in the checksum field, and the checksums agree no more (R149(b)). -/
theorem not_sumOk_update (hsum : SumOk v) (hend : o < 11 + declaredLen v) (h5 : o ≠ 5) (h6 : o ≠ 6) (hx : x ≠ v o) :
    ¬ SumOk (Function.update v o x) := by
  rw [SumOk, coveredCrc_eq] at hsum
  rw [SumOk, declaredLen_update h5 h6, coveredCrc_eq]
  by_cases hfield : 7 ≤ o ∧ o ≤ 10
  · obtain ⟨h7, h10⟩ := hfield
    rw [coveredBytes_update_checksum h7 h10, hsum]
    exact (storedSum_update_ne h7 h10 hx).symm
  · have hstored : storedSum (Function.update v o x) = storedSum v := storedSum_update (by omega)
    have hcrc : crc32 (coveredBytes (declaredLen v) (Function.update v o x)) ≠
        crc32 (coveredBytes (declaredLen v) v) := by
      have hlength := coveredBytes_length (declaredLen v) v
      by_cases hheader : o < 7
      · rw [coveredBytes_update_header hheader]
        exact crc32_set_ne (by omega) (by rwa [coveredBytes_getElem_header hheader])
      · obtain ⟨j, rfl⟩ := Nat.exists_eq_add_of_le (by omega : 11 ≤ o)
        rw [coveredBytes_update_payload]
        exact crc32_set_ne (by omega) (by rwa [coveredBytes_getElem_payload])
    rw [hstored, ← hsum]
    exact fun h => hcrc (BitVec.eq_of_toNat_eq h)

/-- A byte behind the frame is in no checksum. -/
theorem sumOk_update_trailing (hsum : SumOk v) (hend : 11 + declaredLen v ≤ o) : SumOk (Function.update v o x) := by
  rw [SumOk, coveredCrc_eq] at hsum
  have hstored : storedSum (Function.update v o x) = storedSum v := storedSum_update (by omega)
  have hlen : declaredLen (Function.update v o x) = declaredLen v := declaredLen_update (by omega) (by omega)
  obtain ⟨j, rfl⟩ := Nat.exists_eq_add_of_le (by omega : 11 ≤ o)
  rw [SumOk, hlen, coveredCrc_eq, coveredBytes_update_payload, hstored,
    List.set_eq_of_length_le (by rw [coveredBytes_length]; omega), hsum]

end Verdict

/-! ### The statements about PKT_BUILD and a flipped bit -/

/-- Settles O21: BUF_FILL of the header and of the payload, then PKT_SEAL of the written frame. -/
theorem pktBuildSerializesThePacket : Obligations.PktBuildSerializesThePacket := by
  intro ty q p s hp
  obtain ⟨m, r, hall, hholds, hother⟩ := execAll_pktBuild ty q s hp
  refine ⟨_, _, if_pos (decide_eq_true hp), hall, hholds, lastResponse_respond _ _ _, ?_, rfl, hother, rfl, rfl,
    ⟨rfl, rfl, rfl⟩, ⟨rfl, rfl, rfl, rfl, rfl, rfl, rfl, rfl, rfl, rfl, rfl, rfl, rfl⟩⟩
  exact Nat.mod_eq_of_lt (by omega)

/-- Settles O22: the frame that PKT_BUILD leaves holds its own length and checksum. -/
theorem builtPacketIsAccepted : Obligations.BuiltPacketIsAccepted := by
  intro ty q p s hp
  obtain ⟨m, r, hall, hholds, -⟩ := execAll_pktBuild ty q s hp
  obtain ⟨hsum, hlength, hstored⟩ := checksum_builtFrame ty q hp
  have hframe := builtFrame_length ty q p
  have hm : (BitVec.ofNat 32 (11 + p.length)).toNat = 11 + p.length := Nat.mod_eq_of_lt (by omega)
  have hcheck := pktCheckCompletesOnAWrittenFrame (respond .ok (.u32 (builtCrc ty q p)) { s with
    pbuf := m, responses := r, pktLen := BitVec.ofNat 16 p.length, pktCalc := builtCrc ty q p })
    (BitVec.ofNat 32 (11 + p.length)) (builtFrame ty q p) hholds (by omega) (by omega) (by omega) (by omega)
  rw [if_pos (by rw [hsum, hstored]), hsum] at hcheck
  exact ⟨_, (execAll_append_of_next hall).trans (execAll_cons_of_next (is := []) hcheck), lastResponse_respond _ _ _⟩

/-- Settles O23: the flipped bit changes one byte of the reading of PBUF. In a covered byte it changes the checksum, in
the checksum field the stored one, behind the frame neither; in the length field it makes another length. -/
theorem singleBitCorruptionVerdicts : Obligations.SingleBitCorruptionVerdicts := by
  intro s m f o k b hmin hmax hm hholds haccepted hb hk bad end_ newLen
  have hframe := hholds.eq_map_pbufByte
  have holt : o < f.length := (List.getElem?_eq_some_iff.1 hb).1
  have hbyte : pbufByte s o = b := pbufByte_of_find (by simpa using hholds o b hb)
  have haddr : (BitVec.ofNat 8 o).toNat = o := Nat.mod_eq_of_lt (by omega)
  have hread : pbufByte bad = Function.update (pbufByte s) o (b ^^^ (1 <<< k)) := by
    funext x
    simp only [bad, pbufByte, memWrite_find, haddr, Function.update_apply]
    split_ifs <;> rfl
  have hwritten : WrittenFrom s 0 m.toNat := hm ▸ hholds.writtenFrom_zero
  have hwrittenBad : WrittenFrom bad 0 m.toNat := by
    intro x hle hlt
    have hfind := memWrite_find (BitVec.ofNat 8 o) (b ^^^ (1 <<< k)) s x
    split_ifs at hfind
    · rw [pbufByte_of_find hfind, hfind]
    · rw [hwritten x hle hlt] at hfind
      rw [pbufByte_of_find hfind, hfind]
  have hend : end_ = 11 + declaredLen (pbufByte s) := by
    simp only [end_]
    rw [hframe, readBE_lengthField _ hmin]
  have hnew : newLen = declaredLen (pbufByte bad) := by
    simp only [newLen]
    rw [hframe, ← map_range_update, ← hread, readBE_lengthField _ hmin]
  have hflip : b ^^^ (1 <<< k) ≠ pbufByte s o := hbyte ▸ flip_bit_ne b hk
  obtain ⟨hfits, hsum⟩ := fits_and_sumOk_of_accepted (by omega) (by omega) hwritten haccepted
  rw [hend, hnew]
  by_cases hlong : declaredLen (pbufByte bad) > m.toNat - 11
  · obtain ⟨t, r, hexec, hr, hframing⟩ := pktCheck_framingError (by omega) (by omega) hwrittenBad hlong
    have hlength : o = 5 ∨ o = 6 := by
      by_contra hne
      rw [not_or] at hne
      rw [hread, declaredLen_update hne.1 hne.2] at hlong
      omega
    exact ⟨t, r, hexec, hr, fun _ h5 h6 => absurd hlength (by omega), fun hle => absurd hlength (by omega),
      fun _ _ => hframing, fun _ hle => absurd hlong (Nat.not_lt.2 hle)⟩
  · obtain ⟨t, r, hexec, hr, hok, hbad⟩ := pktCheck_judged (by omega) (by omega) hwrittenBad (Nat.not_lt.1 hlong)
    rw [hread] at hok hbad
    refine ⟨t, r, hexec, hr, fun hlt h5 h6 => hbad (not_sumOk_update hsum hlt h5 h6 hflip),
      fun hle => hok (sumOk_update_trailing hsum hle), fun _ hgt => absurd hgt hlong, fun _ _ => ?_⟩
    exact (Classical.em _).imp hok hbad

end Sys2Proof.Machine
end

section
/-! PROOFS. The command stream MODULATE emits the function `modulate` (R178, R179), and what NUM_REAL's samples are: in
[-0.8, 0.8] (R180), and the same in every window of a bit value whose tone makes whole cycles in a bit (R181). -/

namespace Sys2Proof.Machine

/-! ### `modulate` as the windows of the frame's bits (R174) -/

section Samples

variable {α : Type} (N : Numerics α) (c : Cfg)

theorem flatMap_bitsMSB_length (bs : List Byte) : (bs.flatMap bitsMSB).length = 8 * bs.length := by
  induction bs with
  | nil => rfl
  | cons b bs ih => rw [List.flatMap_cons, List.length_append, ih, bitsMSB_length, List.length_cons]; ring

theorem frameBits_length (bs : List Byte) : (frameBits bs).length = 16 + 8 * bs.length := by
  rw [frameBits, List.length_append, preamble_length, flatMap_bitsMSB_length]

theorem windowSamples_append (vs ws : List Bool) (n : Nat) :
    windowSamples N c (vs ++ ws) n = windowSamples N c vs n ++ windowSamples N c ws (n + vs.length * spb c) := by
  induction vs generalizing n with
  | nil => simp [windowSamples]
  | cons v vs ih =>
    rw [List.cons_append, windowSamples_cons, windowSamples_cons, ih, List.append_assoc, List.length_cons,
      Nat.succ_mul, Nat.add_assoc n, Nat.add_comm (spb c)]

theorem modulate_eq_windowSamples (bs : List Byte) : modulate N c bs = windowSamples N c (frameBits bs) 0 := by
  rw [modulate, windowSamples, frameBits_length]
  simp only [Nat.zero_add]

theorem modulate_length (bs : List Byte) : (modulate N c bs).length = (16 + 8 * bs.length) * spb c := by
  rw [modulate, List.length_map, List.length_range]

end Samples

/-! ### The command stream (R178, R179) -/

section Stream

variable {α : Type} (N : Numerics α)

/-- The state with `n` more responses OK without data. -/
def respondOks (n : Nat) (s : State α) : State α :=
  { s with responses := s.responses ++ List.replicate n ⟨.ok, .none⟩ }

theorem respondOks_zero (s : State α) : respondOks 0 s = s := by
  simp [respondOks]

theorem respondOks_respond (n : Nat) (s : State α) : respondOks n (respond .ok .none s) = respondOks (n + 1) s := by
  rw [respondOks, respondOks, append_replicate_succ]
  rfl

theorem respond_respondOks (n : Nat) (s : State α) : respond .ok .none (respondOks n s) = respondOks (n + 1) s := by
  simp [respond, respondOks, List.replicate_succ']

theorem exec_modEnd_open {s : State} (h : s.modActive = true) :
    exec .modEnd s = .next (respond .ok .none { s with modActive := false }) :=
  runModEnd_open h

theorem sendBits_append (vs ws : List Bool) (s : State α) :
    sendBits N (vs ++ ws) s = sendBits N ws (sendBits N vs s) := by
  induction vs generalizing s with
  | nil => rfl
  | cons v vs ih => exact ih (sendBit N v s)

/-- Sending bits does not read the responses. -/
theorem sendBits_respond (vs : List Bool) (c : RespCode) (d : DataLane α) (s : State α) :
    sendBits N vs (respond c d s) = respond c d (sendBits N vs s) := by
  induction vs generalizing s with
  | nil => rfl
  | cons v vs ih => exact ih (sendBit N v s)

/-- The state with a modulation frame just opened (R175). -/
def openedFrame (s : State α) : State α := { s with modN := 0, modActive := true }

/-- MOD_BYTE of each byte of a sequence sends the bytes' bits, where MOD_N does not pass its width. -/
theorem execAll_modBytes (bs : List Byte) (s : State) (hact : s.modActive = true)
    (hfits : s.modN.toNat + 8 * bs.length * spb s.cfg ≤ 4294967295) :
    execAll (bs.map .modByte) s =
      .next (respondOks bs.length (sendBits Config.num (bs.flatMap bitsMSB) s)) := by
  induction bs generalizing s with
  | nil => exact congrArg _ (respondOks_zero s).symm
  | cons b bs ih =>
    have hsplit : 8 * (b :: bs).length * spb s.cfg = 8 * spb s.cfg + 8 * bs.length * spb s.cfg := by
      rw [List.length_cons]
      ring
    have hexec : exec (.modByte b) s = .next (respond .ok .none (sendBits Config.num (bitsMSB b) s)) :=
      runModByte_sends Config.num b hact (by omega)
    have hmodN : (sendBits Config.num (bitsMSB b) s).modN.toNat = s.modN.toNat + 8 * spb s.cfg := by
      rw [sendBits_modN, bitsMSB_length, BitVec.toNat_add, BitVec.toNat_ofNat, Nat.add_mod_mod]
      exact Nat.mod_eq_of_lt (by omega)
    have hrest := ih (respond .ok .none (sendBits Config.num (bitsMSB b) s))
      (by rwa [respond_modActive, sendBits_modActive]) (by rw [respond_modN, hmodN, respond_cfg, sendBits_cfg]; omega)
    rw [List.map_cons, execAll_cons_of_next hexec, hrest, sendBits_respond, respondOks_respond, List.flatMap_cons,
      sendBits_append, List.length_cons]

end Stream

/-! ### NUM_REAL's samples -/

section Real

variable {c : Cfg} {v : Bool}

theorem toneSample_numReal (c : Cfg) (v : Bool) (n : Nat) :
    toneSample numReal c v n = 4 / 5 * Real.sin (2 * Real.pi * (c.freq v).toNat * n / c.sampleRate.toNat) := rfl

theorem toneSample_numReal_mem (c : Cfg) (v : Bool) (n : Nat) :
    -(4 / 5) ≤ toneSample numReal c v n ∧ toneSample numReal c v n ≤ 4 / 5 := by
  rw [toneSample_numReal]
  constructor
  · linarith [Real.neg_one_le_sin (2 * Real.pi * (c.freq v).toNat * n / c.sampleRate.toNat)]
  · linarith [Real.sin_le_one (2 * Real.pi * (c.freq v).toNat * n / c.sampleRate.toNat)]

theorem sampleRate_pos (h : cfgLegal c = true) : 0 < c.sampleRate.toNat := ((cfgLegal_iff c).1 h).1

/-- A tone that makes whole cycles in a bit has the same sample a whole number of bits later. -/
theorem toneSample_numReal_add_bits (hlegal : cfgLegal c = true)
    (hcycles : ((c.freq v).toNat * spb c) % c.sampleRate.toNat = 0) (j n : Nat) :
    toneSample numReal c v (j * spb c + n) = toneSample numReal c v n := by
  obtain ⟨q, hq⟩ := Nat.dvd_of_mod_eq_zero hcycles
  have hfs : (c.sampleRate.toNat : ℝ) ≠ 0 := Nat.cast_ne_zero.2 (sampleRate_pos hlegal).ne'
  have hq' : ((c.freq v).toNat : ℝ) * spb c = c.sampleRate.toNat * q := by exact_mod_cast hq
  have hangle : 2 * Real.pi * (c.freq v).toNat * ((j * spb c + n : Nat) : ℝ) / c.sampleRate.toNat =
      2 * Real.pi * (c.freq v).toNat * n / c.sampleRate.toNat + ((q * j : Nat) : ℝ) * (2 * Real.pi) := by
    push_cast
    field_simp
    linear_combination (j : ℝ) * hq'
  rw [toneSample_numReal, toneSample_numReal, hangle, Real.sin_add_nat_mul_two_pi]

end Real

/-! ### The statements -/

/-- Settles O28: MOD_START sends the preamble's windows, the bytes their bits' windows behind them, and MOD_END closes
the frame. -/
theorem modulateStreamEmitsModulate : Obligations.ModulateStreamEmitsModulate := by
  intro bs s hact hlegal hfits
  refine ⟨?_, modulate_length _ _ _⟩
  have hsplit : (16 + 8 * bs.length) * spb s.cfg = 16 * spb s.cfg + 8 * bs.length * spb s.cfg := Nat.add_mul _ _ _
  have hframe : (0 : Word).toNat + (frameBits bs).length * spb s.cfg < 2 ^ 32 := by
    rw [frameBits_length]
    exact (Nat.zero_add _).trans_lt (Nat.lt_succ_of_le hfits)
  have hstart : exec .modStart s = .next (respond .ok .none (sendBits Config.num preamble (openedFrame s))) :=
    runModStart_legal _ hact hlegal
  have hmodN : (sendBits Config.num preamble (openedFrame s)).modN.toNat = 16 * spb s.cfg := by
    rw [openedFrame, sendBits_preamble]
    exact Nat.mod_eq_of_lt (preamble_fits s.cfg)
  have hbytes := execAll_modBytes bs (respond .ok .none (sendBits Config.num preamble (openedFrame s)))
    (by rw [respond_modActive, sendBits_modActive]; rfl)
    (by rw [respond_modN, hmodN, respond_cfg, sendBits_cfg]; exact hsplit ▸ hfits)
  rw [sendBits_respond, respondOks_respond, ← sendBits_append, ← frameBits,
    sendBits_eq _ _ (openedFrame s) hframe] at hbytes
  have hend := (execAll_append_of_next (js := [.modEnd]) hbytes).trans
    (execAll_cons_of_next (is := []) (exec_modEnd_open rfl))
  refine (execAll_cons_of_next hstart).trans (hend.trans (congrArg Host.Outcome.next ?_))
  rw [modulate_eq_windowSamples, ← frameBits_length, ← Nat.zero_add ((frameBits bs).length * spb s.cfg)]
  refine (respond_respondOks _ { s with
    modActive := false
    modN := BitVec.ofNat 32 (0 + (frameBits bs).length * spb s.cfg)
    txlog := s.txlog ++ windowSamples Config.num s.cfg (frameBits bs) 0 }).trans ?_
  rw [← hact]
  rfl

/-- Settles O29: each sample is 0.8 times a sine. -/
theorem realSamplesStayInRange : Obligations.RealSamplesStayInRange := by
  intro c bs x hx
  obtain ⟨n, -, rfl⟩ := List.mem_map.1 hx
  exact toneSample_numReal_mem c _ n

/-- Settles O30: a whole number of bits later the tone's sample is the same, and at index 0 it is 0. -/
theorem wholeCycleWindowsRepeat : Obligations.WholeCycleWindowsRepeat := by
  intro c v hlegal hcycles j
  constructor
  · refine List.map_congr_left fun n _ => ?_
    rw [toneSample_numReal_add_bits hlegal hcycles, Nat.zero_add]
  · have hstart := toneSample_numReal_add_bits hlegal hcycles j 0
    rw [Nat.add_zero] at hstart
    rw [hstart, toneSample_numReal]
    simp

end Sys2Proof.Machine
end

section
/-! PROOFS. The function `demodulate` under NUM_REAL: the Goertzel power is the power of a bin of the window's DFT
(R194), the windows of `modulate` are the bits' samples, and so the round trip at the defaults (R201) and with
coinciding bins (R202). The bin index (R31). -/

namespace Sys2Proof.Machine

/-! ### The bin index (R31) -/

section Bin

variable {c : Cfg}

theorem spb_mul_bitRate (h : cfgLegal c = true) : spb c * c.bitRate.toNat = c.sampleRate.toNat := by
  obtain ⟨-, -, hmod, -⟩ := (cfgLegal_iff c).1 h
  rw [spb, if_pos h, Nat.div_mul_cancel (Nat.dvd_of_mod_eq_zero hmod)]

theorem bitRate_pos (h : cfgLegal c = true) : 0 < c.bitRate.toNat := by
  obtain ⟨-, hbr, -⟩ := (cfgLegal_iff c).1 h
  exact hbr

/-- SPB stands in both terms of the quotient. -/
theorem binIndex_eq (h : cfgLegal c = true) (v : Bool) :
    binIndex c v = (2 * (c.freq v).toNat + c.bitRate.toNat) / (2 * c.bitRate.toNat) := by
  have hnum : 2 * (spb c * (c.freq v).toNat) + c.sampleRate.toNat =
      spb c * (2 * (c.freq v).toNat + c.bitRate.toNat) := by
    rw [← spb_mul_bitRate h]
    ring
  have hden : 2 * c.sampleRate.toNat = spb c * (2 * c.bitRate.toNat) := by
    rw [← spb_mul_bitRate h]
    ring
  rw [binIndex, if_pos h, roundDiv, hnum, hden, Nat.mul_div_mul_left _ _ (spb_pos h)]

theorem binIndex_le_freq (h : cfgLegal c = true) (v : Bool) : binIndex c v ≤ (c.freq v).toNat := by
  have hbr := bitRate_pos h
  rw [binIndex_eq h, ← Nat.lt_succ_iff, Nat.div_lt_iff_lt_mul (by omega)]
  nlinarith

theorem binIndex_toNat (h : cfgLegal c = true) (v : Bool) : (BitVec.ofNat 32 (binIndex c v)).toNat = binIndex c v :=
  Nat.mod_eq_of_lt ((binIndex_le_freq h v).trans_lt (c.freq v).isLt)

end Bin

/-! ### The Goertzel power under NUM_REAL (R192 to R194) -/

section Goertzel

/-- The window's cosine sum at an angle. -/
noncomputable def cosSum (θ : ℝ) (w : List ℝ) : ℝ := ∑ n ∈ Finset.range w.length, w.getD n 0 * Real.cos (θ * n)

/-- The window's sine sum at an angle. -/
noncomputable def sinSum (θ : ℝ) (w : List ℝ) : ℝ := ∑ n ∈ Finset.range w.length, w.getD n 0 * Real.sin (θ * n)

/-- One sample more is one term more. -/
theorem sum_getD_append (f : ℕ → ℝ) (w : List ℝ) (x : ℝ) :
    ∑ n ∈ Finset.range (w ++ [x]).length, (w ++ [x]).getD n 0 * f n =
      (∑ n ∈ Finset.range w.length, w.getD n 0 * f n) + x * f w.length := by
  rw [List.length_append, List.length_singleton, Finset.sum_range_succ]
  congr 1
  · refine Finset.sum_congr rfl fun n hn => ?_
    rw [List.getD_append _ _ _ _ (Finset.mem_range.1 hn)]
  · rw [List.getD_append_right _ _ _ _ le_rfl]
    simp

theorem goertzelState_append (k : ℝ) (w : List ℝ) (x : ℝ) :
    goertzelState numReal k (w ++ [x]) =
      (x + k * (goertzelState numReal k w).1 - (goertzelState numReal k w).2, (goertzelState numReal k w).1) := by
  rw [goertzelState, List.foldl_append]
  rfl

/-- The filter's pair, after L samples: s1 - e^(-iθ) s2 is e^(iθ(L-1)) times the window's DFT at θ, in its real and its
imaginary part. -/
theorem goertzelState_rotated (θ : ℝ) (w : List ℝ) :
    (goertzelState numReal (2 * Real.cos θ) w).1 - Real.cos θ * (goertzelState numReal (2 * Real.cos θ) w).2 =
        Real.cos (θ * (w.length - 1)) * cosSum θ w + Real.sin (θ * (w.length - 1)) * sinSum θ w ∧
      Real.sin θ * (goertzelState numReal (2 * Real.cos θ) w).2 =
        Real.sin (θ * (w.length - 1)) * cosSum θ w - Real.cos (θ * (w.length - 1)) * sinSum θ w := by
  induction w using List.reverseRecOn with
  | nil =>
    have hstart : goertzelState numReal (2 * Real.cos θ) [] = (0, 0) := rfl
    simp [hstart, cosSum, sinSum]
  | append_singleton w x ih =>
    obtain ⟨ihre, ihim⟩ := ih
    rw [goertzelState_append]
    generalize goertzelState numReal (2 * Real.cos θ) w = st at *
    have hL : θ * (((w ++ [x]).length : ℝ) - 1) = θ * (w.length - 1) + θ := by
      rw [List.length_append, List.length_singleton]
      push_cast
      ring
    have hlast : θ * (w.length : ℝ) = θ * (w.length - 1) + θ := by ring
    have hcos : cosSum θ (w ++ [x]) = cosSum θ w + x * Real.cos (θ * w.length) := sum_getD_append _ w x
    have hsin : sinSum θ (w ++ [x]) = sinSum θ w + x * Real.sin (θ * w.length) := sum_getD_append _ w x
    rw [hL, hcos, hsin, hlast, Real.cos_add, Real.sin_add]
    generalize θ * ((w.length : ℝ) - 1) = φ at *
    have hθ := Real.sin_sq_add_cos_sq θ
    have hφ := Real.sin_sq_add_cos_sq φ
    dsimp only
    constructor
    · linear_combination Real.cos θ * ihre - Real.sin θ * ihim + st.2 * hθ -
        x * ((Real.sin θ ^ 2 + Real.cos θ ^ 2) * hφ + hθ)
    · linear_combination Real.sin θ * ihre + Real.cos θ * ihim

/-- The power of the pair is the squared modulus of s1 - e^(-iθ) s2. -/
theorem power_numReal (θ s1 s2 : ℝ) :
    power numReal s1 s2 (2 * Real.cos θ) = (s1 - Real.cos θ * s2) ^ 2 + (Real.sin θ * s2) ^ 2 := by
  have hpower : power numReal s1 s2 (2 * Real.cos θ) = s1 * s1 + s2 * s2 - 2 * Real.cos θ * s1 * s2 := rfl
  rw [hpower]
  linear_combination -s2 ^ 2 * Real.sin_sq_add_cos_sq θ

theorem windowPower_numReal (θ : ℝ) (w : List ℝ) :
    windowPower numReal (2 * Real.cos θ) w = cosSum θ w ^ 2 + sinSum θ w ^ 2 := by
  obtain ⟨hre, him⟩ := goertzelState_rotated θ w
  rw [windowPower, power_numReal, hre, him]
  linear_combination (cosSum θ w ^ 2 + sinSum θ w ^ 2) * Real.sin_sq_add_cos_sq (θ * (w.length - 1))

/-- The angle of a bin. -/
noncomputable def binAngle (k n : Nat) : ℝ := 2 * Real.pi * k / n

theorem coeff_numReal {c : Cfg} (h : cfgLegal c = true) (v : Bool) :
    coeff numReal c v = 2 * Real.cos (binAngle (binIndex c v) (spb c)) := by
  rw [coeff, if_pos h]
  rfl

theorem goertzel_numReal {c : Cfg} (h : cfgLegal c = true) (v : Bool) (w : List ℝ) :
    goertzel numReal c w v =
      cosSum (binAngle (binIndex c v) (spb c)) w ^ 2 + sinSum (binAngle (binIndex c v) (spb c)) w ^ 2 := by
  rw [goertzel, coeff_numReal h, windowPower_numReal]

end Goertzel

/-! ### The windows of `modulate` (R174, R196) -/

section Windows

variable {α : Type} (N : Numerics α) {c : Cfg}

theorem windowCount_modulate (h : cfgLegal c = true) (bs : List Byte) :
    windowCount c (modulate N c bs).length = 8 * bs.length := by
  have hsplit : (16 + 8 * bs.length) * spb c = preambleSamples c + 8 * bs.length * spb c := Nat.add_mul _ _ _
  rw [modulate_length, hsplit, windowCount, if_pos (Nat.le_add_right _ _), Nat.add_sub_cancel_left,
    Nat.mul_div_cancel _ (spb_pos h)]

/-- The j-th window past the preamble holds the samples of bit j of the bytes. -/
theorem windowAt_modulate (h : cfgLegal c = true) (bs : List Byte) {j : Nat} (hj : j < 8 * bs.length) :
    windowAt c (modulate N c bs) j = bitSamples N c ((bs.flatMap bitsMSB).getD j false) ((16 + j) * spb c) := by
  have hstart : preambleSamples c + j * spb c = (16 + j) * spb c := (Nat.add_mul _ _ _).symm
  have hend : (16 + j) * spb c + spb c ≤ (16 + 8 * bs.length) * spb c := by
    rw [← Nat.succ_mul]
    exact Nat.mul_le_mul_right _ (by omega)
  rw [windowAt, hstart, modulate, slice_map_range _ hend]
  refine List.map_congr_left fun t ht => ?_
  have hbit : ((16 + j) * spb c + t) / spb c = 16 + j := by
    rw [Nat.mul_comm, Nat.mul_add_div (spb_pos h), Nat.div_eq_of_lt (List.mem_range.1 ht), Nat.add_zero]
  have hpre : preamble.length ≤ 16 + j := by rw [preamble_length]; omega
  rw [hbit, frameBits, List.getD_append_right _ _ _ _ hpre, preamble_length, Nat.add_sub_cancel_left]

/-- Where the decided bit of a bit's samples depends on its value alone, so does each bit of the stream. -/
theorem bitstream_modulate (h : cfgLegal c = true) (bs : List Byte) (decided : Bool → Bool)
    (hdecides : ∀ v j, decideBit N c (bitSamples N c v ((16 + j) * spb c)) = decided v) :
    bitstream N c (modulate N c bs) = (bs.flatMap bitsMSB).map decided := by
  refine List.ext_getElem ?_ fun j hj _ => ?_
  · rw [bitstream, List.length_map, List.length_map, List.length_range, windowCount_modulate N h,
      flatMap_bitsMSB_length]
  · have hj' : j < 8 * bs.length := by simpa [bitstream, windowCount_modulate N h] using hj
    have hlen : j < (bs.flatMap bitsMSB).length := by rwa [flatMap_bitsMSB_length]
    simp only [bitstream, List.getElem_map, List.getElem_range, windowAt_modulate N h bs hj', hdecides,
      List.getD_eq_getElem _ _ hlen]

/-- A byte's bits, put together again most significant first (R9, R196). -/
theorem byte_of_bits : ∀ b : Byte,
    BitVec.ofNat 8 (((List.range 8).map fun t => (b.getLsbD (7 - t)).toNat * 2 ^ (7 - t)).sum) = b := by
  decide +kernel

theorem flatMap_bitsMSB_getD {bs : List Byte} {i t : Nat} (hi : i < bs.length) (ht : t < 8) :
    (bs.flatMap bitsMSB).getD (8 * i + t) false = bs[i].getLsbD (7 - t) := by
  induction bs generalizing i with
  | nil => simp at hi
  | cons b bs ih =>
    rw [List.flatMap_cons]
    cases i with
    | zero =>
      rw [Nat.mul_zero, Nat.zero_add, List.getD_append _ _ _ _ ht, bitsMSB_getD b ht]
      rfl
    | succ i =>
      rw [List.getD_append_right _ _ _ _ (by rw [bitsMSB_length]; omega), bitsMSB_length,
        show 8 * (i + 1) + t - 8 = 8 * i + t by omega, ih (by simpa using hi)]
      rfl

theorem byteAt_flatMap_bitsMSB {bs : List Byte} {i : Nat} (hi : i < bs.length) :
    byteAt (bs.flatMap bitsMSB) i = bs[i] := by
  have hbits : ((List.range 8).map fun t => ((bs.flatMap bitsMSB).getD (8 * i + t) false).toNat * 2 ^ (7 - t)) =
      (List.range 8).map fun t => (bs[i].getLsbD (7 - t)).toNat * 2 ^ (7 - t) :=
    List.map_congr_left fun t ht => by rw [flatMap_bitsMSB_getD hi (List.mem_range.1 ht)]
  rw [byteAt, hbits, byte_of_bits]

/-- No bit set, no value. -/
theorem byteAt_map_false (bits : List Bool) (i : Nat) : byteAt (bits.map fun _ => false) i = 0 := by
  simp [byteAt]

theorem demodulate_modulate (h : cfgLegal c = true) (bs : List Byte) (decided : Bool → Bool)
    (hdecides : ∀ v j, decideBit N c (bitSamples N c v ((16 + j) * spb c)) = decided v) :
    demodulate N c (modulate N c bs) = (List.range bs.length).map (byteAt ((bs.flatMap bitsMSB).map decided)) := by
  rw [demodulate, bitstream_modulate N h bs decided hdecides, windowCount_modulate N h,
    Nat.mul_div_cancel_left _ (by decide)]

end Windows

/-! ### Orthogonality of a window's bins -/

section Orthogonal

/-- The angle of `d` turns in `n` steps. -/
noncomputable def turnAngle (d : ℤ) (n : Nat) : ℝ := 2 * Real.pi * d / n

/-- Over a whole number of turns, no multiple of the window's length, the points on the circle add up to 0. -/
theorem sum_exp_turns {n : Nat} {d : ℤ} (hn : n ≠ 0) (hd : ¬ (n : ℤ) ∣ d) :
    ∑ j ∈ Finset.range n, Complex.exp (turnAngle d n * j * Complex.I) = 0 := by
  have hn' : (n : ℂ) ≠ 0 := Nat.cast_ne_zero.2 hn
  have hpi : (2 * Real.pi * Complex.I : ℂ) ≠ 0 := by simp [Real.pi_ne_zero]
  have hangle : (turnAngle d n : ℂ) * Complex.I = d / n * (2 * Real.pi * Complex.I) := by
    rw [turnAngle]
    push_cast
    ring
  have hpow (j : Nat) : Complex.exp (turnAngle d n * j * Complex.I) = Complex.exp (turnAngle d n * Complex.I) ^ j := by
    rw [← Complex.exp_nat_mul]
    ring_nf
  have hne : Complex.exp (turnAngle d n * Complex.I) ≠ 1 := by
    rw [Ne, Complex.exp_eq_one_iff]
    rintro ⟨k, hk⟩
    rw [hangle] at hk
    have hdk := mul_right_cancel₀ hpi hk
    rw [div_eq_iff hn'] at hdk
    exact hd ⟨k, by rw [mul_comm]; exact_mod_cast hdk⟩
  have hone : Complex.exp (turnAngle d n * Complex.I) ^ n = 1 := by
    rw [← Complex.exp_nat_mul, hangle, Complex.exp_eq_one_iff]
    exact ⟨d, by field_simp⟩
  simp only [hpow]
  rw [geom_sum_eq hne, hone, sub_self, zero_div]

theorem sum_cos_turns {n : Nat} {d : ℤ} (hn : n ≠ 0) (hd : ¬ (n : ℤ) ∣ d) :
    ∑ j ∈ Finset.range n, Real.cos (turnAngle d n * j) = 0 := by
  have h := congrArg Complex.re (sum_exp_turns hn hd)
  rw [Complex.re_sum, Complex.zero_re] at h
  rw [← h]
  refine Finset.sum_congr rfl fun j _ => ?_
  rw [← Complex.exp_ofReal_mul_I_re]
  push_cast
  rfl

theorem sum_sin_turns {n : Nat} {d : ℤ} (hn : n ≠ 0) (hd : ¬ (n : ℤ) ∣ d) :
    ∑ j ∈ Finset.range n, Real.sin (turnAngle d n * j) = 0 := by
  have h := congrArg Complex.im (sum_exp_turns hn hd)
  rw [Complex.im_sum, Complex.zero_im] at h
  rw [← h]
  refine Finset.sum_congr rfl fun j _ => ?_
  rw [← Complex.exp_ofReal_mul_I_im]
  push_cast
  rfl

theorem turnAngle_add (d e : ℤ) (n j : Nat) :
    turnAngle (d + e) n * j = turnAngle d n * j + turnAngle e n * j := by
  rw [turnAngle, turnAngle, turnAngle]
  push_cast
  ring

theorem turnAngle_sub (d e : ℤ) (n j : Nat) :
    turnAngle (d - e) n * j = turnAngle d n * j - turnAngle e n * j := by
  rw [turnAngle, turnAngle, turnAngle]
  push_cast
  ring

variable {n : Nat} {d e : ℤ}

/-- A sine is orthogonal to the cosines of other bins. -/
theorem sum_sin_mul_cos_turns (hn : n ≠ 0) (hadd : ¬ (n : ℤ) ∣ d + e) (hsub : ¬ (n : ℤ) ∣ d - e) :
    ∑ j ∈ Finset.range n, Real.sin (turnAngle d n * j) * Real.cos (turnAngle e n * j) = 0 := by
  have hprod (j : Nat) : Real.sin (turnAngle d n * j) * Real.cos (turnAngle e n * j) =
      (Real.sin (turnAngle (d + e) n * j) + Real.sin (turnAngle (d - e) n * j)) / 2 := by
    rw [turnAngle_add, turnAngle_sub, Real.sin_add, Real.sin_sub]
    ring
  simp only [hprod]
  rw [← Finset.sum_div, Finset.sum_add_distrib, sum_sin_turns hn hadd, sum_sin_turns hn hsub, add_zero, zero_div]

/-- A sine is orthogonal to the sines of other bins. -/
theorem sum_sin_mul_sin_turns (hn : n ≠ 0) (hadd : ¬ (n : ℤ) ∣ d + e) (hsub : ¬ (n : ℤ) ∣ d - e) :
    ∑ j ∈ Finset.range n, Real.sin (turnAngle d n * j) * Real.sin (turnAngle e n * j) = 0 := by
  have hprod (j : Nat) : Real.sin (turnAngle d n * j) * Real.sin (turnAngle e n * j) =
      (Real.cos (turnAngle (d - e) n * j) - Real.cos (turnAngle (d + e) n * j)) / 2 := by
    rw [turnAngle_add, turnAngle_sub, Real.cos_add, Real.cos_sub]
    ring
  simp only [hprod]
  rw [← Finset.sum_div, Finset.sum_sub_distrib, sum_cos_turns hn hadd, sum_cos_turns hn hsub, sub_zero, zero_div]

end Orthogonal

/-! ### The tones at the default configuration (R201) -/

section Defaults

/-- The bin of a tone at the defaults. -/
def defaultBin (v : Bool) : ℤ := if v then 2 else 1

theorem binAngle_default (v : Bool) : binAngle (binIndex resetCfg v) (spb resetCfg) = turnAngle (defaultBin v) 40 := by
  cases v with
  | false =>
    rw [resetCfg_binIndex_false, resetCfg_spb, binAngle, turnAngle, defaultBin]
    norm_num
  | true =>
    rw [resetCfg_binIndex_true, resetCfg_spb, binAngle, turnAngle, defaultBin]
    norm_num

/-- At the defaults a tone makes `defaultBin` cycles in a window's 40 samples. -/
theorem toneSample_default (v : Bool) (n : Nat) :
    toneSample numReal resetCfg v n = 4 / 5 * Real.sin (turnAngle (defaultBin v) 40 * n) := by
  rw [toneSample_numReal, turnAngle, defaultBin]
  cases v with
  | false =>
    have hfreq : (resetCfg.freq false).toNat = 1200 := rfl
    have hrate : resetCfg.sampleRate.toNat = 48000 := rfl
    rw [hfreq, hrate]
    norm_num
    ring_nf
  | true =>
    have hfreq : (resetCfg.freq true).toNat = 2400 := rfl
    have hrate : resetCfg.sampleRate.toNat = 48000 := rfl
    rw [hfreq, hrate]
    norm_num
    ring_nf

theorem sum_bitSamples_default (v : Bool) (f : ℕ → ℝ) :
    ∑ n ∈ Finset.range (bitSamples numReal resetCfg v 0).length, (bitSamples numReal resetCfg v 0).getD n 0 * f n =
      4 / 5 * ∑ n ∈ Finset.range 40, Real.sin (turnAngle (defaultBin v) 40 * n) * f n := by
  rw [bitSamples_length, resetCfg_spb, Finset.mul_sum]
  refine Finset.sum_congr rfl fun n hn => ?_
  have hlt : n < (bitSamples numReal resetCfg v 0).length := by
    rw [bitSamples_length, resetCfg_spb]
    exact Finset.mem_range.1 hn
  rw [List.getD_eq_getElem _ _ hlt]
  simp only [bitSamples, List.getElem_map, List.getElem_range, Nat.zero_add, toneSample_default]
  ring

/-- The other tone's bin has no power. -/
theorem goertzel_default_other (v : Bool) : goertzel numReal resetCfg (bitSamples numReal resetCfg v 0) (!v) = 0 := by
  have hadd : ¬ ((40 : ℕ) : ℤ) ∣ defaultBin v + defaultBin (!v) := by cases v <;> decide
  have hsub : ¬ ((40 : ℕ) : ℤ) ∣ defaultBin v - defaultBin (!v) := by cases v <;> decide
  rw [goertzel_numReal resetCfg_legal, binAngle_default, cosSum, sinSum, sum_bitSamples_default,
    sum_bitSamples_default, sum_sin_mul_cos_turns (by decide) hadd hsub, sum_sin_mul_sin_turns (by decide) hadd hsub]
  norm_num

/-- The mark tone's bin has power. -/
theorem goertzel_default_mark_pos : 0 < goertzel numReal resetCfg (bitSamples numReal resetCfg true 0) true := by
  have hterm : 0 < Real.sin (turnAngle (defaultBin true) 40 * (1 : ℕ)) := by
    refine Real.sin_pos_of_pos_of_lt_pi ?_ ?_
    · rw [turnAngle, defaultBin]
      have hpi := Real.pi_pos
      norm_num
      linarith
    · rw [turnAngle, defaultBin]
      have hpi := Real.pi_pos
      norm_num
      linarith
  have hsum : 0 < ∑ n ∈ Finset.range 40,
      Real.sin (turnAngle (defaultBin true) 40 * n) * Real.sin (turnAngle (defaultBin true) 40 * n) :=
    Finset.sum_pos' (fun n _ => mul_self_nonneg _) ⟨1, Finset.mem_range.2 (by norm_num), mul_pos hterm hterm⟩
  rw [goertzel_numReal resetCfg_legal, binAngle_default, sinSum, sum_bitSamples_default]
  exact add_pos_of_nonneg_of_pos (sq_nonneg _) (pow_pos (mul_pos (by norm_num) hsum) 2)

theorem goertzel_nonneg {c : Cfg} (h : cfgLegal c = true) (v : Bool) (w : List ℝ) : 0 ≤ goertzel numReal c w v := by
  rw [goertzel_numReal h]
  positivity

theorem decideBit_numReal_iff (c : Cfg) (w : List ℝ) :
    decideBit numReal c w = true ↔ goertzel numReal c w false < goertzel numReal c w true :=
  decide_eq_true_iff

theorem decideBit_default (v : Bool) : decideBit numReal resetCfg (bitSamples numReal resetCfg v 0) = v := by
  have hother := goertzel_default_other v
  cases v with
  | false =>
    rw [← Bool.not_eq_true, decideBit_numReal_iff, not_lt]
    exact hother.le.trans (goertzel_nonneg resetCfg_legal _ _)
  | true =>
    rw [decideBit_numReal_iff]
    exact hother.trans_lt goertzel_default_mark_pos

/-- Both default tones make whole cycles in a bit, so that every window of a bit value is the first (R181). -/
theorem bitSamples_default (v : Bool) (j : Nat) :
    bitSamples numReal resetCfg v (j * spb resetCfg) = bitSamples numReal resetCfg v 0 := by
  have hcycles : ((resetCfg.freq v).toNat * spb resetCfg) % resetCfg.sampleRate.toNat = 0 := by
    rw [resetCfg_spb]
    cases v <;> rfl
  exact (wholeCycleWindowsRepeat resetCfg v resetCfg_legal hcycles j).1

end Defaults

/-! ### The statements -/

/-- Settles O36: the recurrence turns the window's DFT by an angle (`goertzelState_rotated`), and the power is a squared
modulus. -/
theorem goertzelIsTheDftBinPower : Obligations.GoertzelIsTheDftBinPower := by
  intro c w v hlegal _
  have hangle (n : ℕ) : 2 * Real.pi * binIndex c v * n / spb c = binAngle (binIndex c v) (spb c) * n :=
    mul_div_right_comm _ _ _
  simp only [hangle]
  exact goertzel_numReal hlegal v w

/-- Settles O37: every bit decides itself, and the bits of a byte put it together again. -/
theorem noiselessRoundTripAtTheDefaults : Obligations.NoiselessRoundTripAtTheDefaults := by
  intro bs
  have hdecides (v : Bool) (j : Nat) :
      decideBit numReal resetCfg (bitSamples numReal resetCfg v ((16 + j) * spb resetCfg)) = id v := by
    rw [bitSamples_default, decideBit_default, id]
  refine (demodulate_modulate numReal resetCfg_legal bs id hdecides).trans ?_
  rw [List.map_id]
  exact List.ext_getElem (by simp) fun i _ hi => by simp [byteAt_flatMap_bitsMSB hi]

/-- Settles O38: both bins have the same power, which is not greater than itself. -/
theorem coincidingBinsDecodeToZeros : Obligations.CoincidingBinsDecodeToZeros := by
  intro c bs hlegal hbins
  have hdecides (v : Bool) (j : Nat) : decideBit numReal c (bitSamples numReal c v ((16 + j) * spb c)) = false := by
    rw [← Bool.not_eq_true, decideBit_numReal_iff, goertzel, goertzel, coeff_numReal hlegal, coeff_numReal hlegal,
      hbins]
    exact lt_irrefl _
  rw [demodulate_modulate numReal hlegal bs (fun _ => false) hdecides]
  rw [funext (byteAt_map_false _), List.map_const', List.length_range]

/-- Settles O39: SPB is the quotient of the rates, so that it cancels; a bin is at most its tone's frequency, a word. -/
theorem binIndexFitsItsRegister : Obligations.BinIndexFitsItsRegister :=
  fun _ hlegal => ⟨fun v => ⟨binIndex_eq hlegal v, binIndex_le_freq hlegal v⟩, binIndex_toNat hlegal false,
    binIndex_toNat hlegal true⟩

end Sys2Proof.Machine
end

section
/-! PROOFS. The command stream DEMODULATE emits the function `demodulate` (R200): the samples past the preamble fill the
windows of R196, each window decides one bit, and each eighth bit emits the byte of its eight. -/

namespace Sys2Proof.Machine

/-! ### The byte being assembled (R37) -/

section Bits

/-- The bits shifted into an empty byte register. -/
def packBits (bits : List Bool) : Byte :=
  bits.foldl (fun acc v => (acc <<< 1) ||| (BitVec.ofBool v).setWidth 8) 0

theorem packBits_append (bits : List Bool) (v : Bool) :
    packBits (bits ++ [v]) = (packBits bits <<< 1) ||| (BitVec.ofBool v).setWidth 8 := by
  rw [packBits, List.foldl_append]
  rfl

theorem packBits_eight : ∀ a b c d e f g h : Bool, packBits [a, b, c, d, e, f, g, h] =
    BitVec.ofNat 8 (((List.range 8).map fun t =>
      ([a, b, c, d, e, f, g, h].getD t false).toNat * 2 ^ (7 - t)).sum) := by
  decide +kernel

theorem eq_of_length_eight {l : List Bool} (h : l.length = 8) :
    ∃ a b c d e f g i, l = [a, b, c, d, e, f, g, i] := by
  match l, h with
  | [a, b, c, d, e, f, g, i], _ => exact ⟨a, b, c, d, e, f, g, i, rfl⟩

/-- `byte(i)` of R196 is the eight bits from 8i on, shifted in one after another. -/
theorem byteAt_eq_packBits {bits : List Bool} {i : Nat} (h : 8 * i + 8 ≤ bits.length) :
    byteAt bits i = packBits ((bits.drop (8 * i)).take 8) := by
  have hlength : ((bits.drop (8 * i)).take 8).length = 8 := by
    rw [List.length_take, List.length_drop]
    omega
  have hget (t : Nat) (ht : t < 8) : ((bits.drop (8 * i)).take 8).getD t false = bits.getD (8 * i + t) false := by
    rw [List.getD_eq_getElem _ _ (by omega), List.getD_eq_getElem _ _ (by omega)]
    simp
  obtain ⟨a, b, c, d, e, f, g, j, hbits⟩ := eq_of_length_eight hlength
  rw [hbits] at hget
  rw [hbits, packBits_eight, byteAt]
  congr 2
  exact List.map_congr_left fun t ht => by rw [hget t (List.mem_range.1 ht)]

theorem byteAt_append {bits : List Bool} {i : Nat} (h : 8 * i + 8 ≤ bits.length) (v : Bool) :
    byteAt (bits ++ [v]) i = byteAt bits i := by
  have hlength : (bits ++ [v]).length = bits.length + 1 := by simp
  rw [byteAt_eq_packBits h, byteAt_eq_packBits (by omega), List.drop_append_of_le_length (by omega),
    List.take_append_of_le_length (by rw [List.length_drop]; omega)]

/-- The detector has received `bits` since its frame opened: the full bytes stand in RXLOG behind `rx`, and the bits
that fill no byte are being assembled (R37). -/
structure Received (rx : List Byte) (bits : List Bool) (s : State) : Prop where
  count : s.demBcnt.val = bits.length % 8
  register : s.demBsr = packBits (bits.drop (8 * (bits.length / 8)))
  log : s.rxlog = rx ++ (List.range (bits.length / 8)).map (byteAt bits)

theorem Received.of_same {rx : List Byte} {bits : List Bool} {s t : State} (h : Received rx bits s)
    (hbcnt : t.demBcnt = s.demBcnt) (hbsr : t.demBsr = s.demBsr) (hlog : t.rxlog = s.rxlog) : Received rx bits t :=
  ⟨hbcnt ▸ h.count, hbsr ▸ h.register, hlog ▸ h.log⟩

theorem map_byteAt_append (bits : List Bool) (v : Bool) :
    (List.range (bits.length / 8)).map (byteAt (bits ++ [v])) = (List.range (bits.length / 8)).map (byteAt bits) :=
  List.map_congr_left fun i hi => byteAt_append (by have hlt := List.mem_range.1 hi; omega) v

/-- One bit more, shifted in; an eighth one completes its byte. -/
theorem Received.shiftInBit {rx : List Byte} {bits : List Bool} {s : State} (h : Received rx bits s) (v : Bool) :
    Received rx (bits ++ [v]) (shiftInBit v s) := by
  obtain ⟨hcount, hregister, hlog⟩ := h
  have hlength : (bits ++ [v]).length = bits.length + 1 := by simp
  have hshifted : (s.demBsr <<< 1) ||| (BitVec.ofBool v).setWidth 8 =
      packBits ((bits ++ [v]).drop (8 * (bits.length / 8))) := by
    rw [hregister, ← packBits_append, List.drop_append_of_le_length (by omega)]
  by_cases hfull : s.demBcnt = 7
  · obtain ⟨hbsr, hbcnt, hrx⟩ := shiftInBit_full s v hfull
    have hseven : bits.length % 8 = 7 := by rw [← hcount, hfull]; rfl
    have hdiv : (bits ++ [v]).length / 8 = bits.length / 8 + 1 := by omega
    have hbyte : byteAt (bits ++ [v]) (bits.length / 8) = packBits ((bits ++ [v]).drop (8 * (bits.length / 8))) := by
      rw [byteAt_eq_packBits (by omega), List.take_of_length_le (by rw [List.length_drop]; omega)]
    refine ⟨?_, ?_, ?_⟩
    · rw [hbcnt, hlength]
      show 0 = _
      omega
    · rw [hbsr, hdiv, List.drop_of_length_le (by omega)]
      rfl
    · rw [hrx, hdiv, List.range_succ, List.map_append, map_byteAt_append, hlog, hshifted, ← hbyte, List.append_assoc]
      rfl
  · obtain ⟨hbsr, hbcnt, hrx⟩ := shiftInBit_partial s v hfull
    have hne : bits.length % 8 ≠ 7 := fun h7 => hfull (Fin.ext (hcount.trans h7))
    have hdiv : (bits ++ [v]).length / 8 = bits.length / 8 := by omega
    refine ⟨?_, ?_, ?_⟩
    · rw [hbcnt, Fin.val_add_one_of_lt' (by omega), hcount, hlength]
      omega
    · rw [hbsr, hdiv, hshifted]
    · rw [hrx, hdiv, map_byteAt_append, hlog]

end Bits

/-! ### One sample (R198) -/

section Samples

variable {s : State}

/-- What DEM_SAMPLE does in an open frame, without its response. -/
def takeSample (s : State) (x : Sample) : State :=
  if s.demSkip ≠ 0 then { s with demSkip := s.demSkip - 1 }
  else if (s.demWcnt + 1).toNat = spb s.cfg then closeWindow Config.num (feedFilters Config.num x s)
  else feedFilters Config.num x s

theorem takeSample_demActive (s : State) (x : Sample) : (takeSample s x).demActive = s.demActive := by
  unfold takeSample
  split_ifs <;> simp

theorem takeSample_responses (s : State) (x : Sample) : (takeSample s x).responses = s.responses := by
  unfold takeSample
  split_ifs <;> simp

theorem exec_demEnd_open (h : s.demActive = true) :
    exec .demEnd s = .next (respond .ok .none { clearFilters Config.num s with
      demSkip := 0, demWcnt := 0, demBsr := 0, demBcnt := 0, demActive := false }) :=
  runDemEnd_open _ h

theorem exec_demSample (x : Sample) (hact : s.demActive = true) :
    exec (.demSample x) s = .next (respond .ok .none (takeSample s x)) := by
  unfold takeSample
  split_ifs with hskip hwcnt
  · exact runDemSample_skips _ x hact hskip
  · exact runDemSample_completes _ x hact (not_not.1 hskip) hwcnt
  · exact runDemSample_feeds _ x hact (not_not.1 hskip) hwcnt

/-- A sample does not read the responses. -/
theorem takeSample_respond (c : RespCode) (d : DataLane) (s : State) (x : Sample) :
    takeSample (respond c d s) x = respond c d (takeSample s x) := by
  have hclose (u : State) : closeWindow Config.num (respond c d u) = respond c d (closeWindow Config.num u) := by
    rw [closeWindow_eq, closeWindow_eq, shiftInBit_eq, shiftInBit_eq]
    rfl
  have hfeed : feedFilters Config.num x (respond c d s) = respond c d (feedFilters Config.num x s) := rfl
  simp only [takeSample, respond_demSkip, respond_demWcnt, respond_cfg, hfeed, hclose]
  split_ifs <;> rfl

theorem foldl_takeSample_respond (c : RespCode) (d : DataLane) (xs : List Sample) (s : State) :
    xs.foldl takeSample (respond c d s) = respond c d (xs.foldl takeSample s) := by
  induction xs generalizing s with
  | nil => rfl
  | cons x xs ih => rw [List.foldl_cons, takeSample_respond, ih, List.foldl_cons]

theorem foldl_takeSample_demActive (xs : List Sample) (s : State) :
    (xs.foldl takeSample s).demActive = s.demActive := by
  induction xs generalizing s with
  | nil => rfl
  | cons x xs ih => rw [List.foldl_cons, ih, takeSample_demActive]

theorem foldl_takeSample_responses (xs : List Sample) (s : State) :
    (xs.foldl takeSample s).responses = s.responses := by
  induction xs generalizing s with
  | nil => rfl
  | cons x xs ih => rw [List.foldl_cons, ih, takeSample_responses]

theorem execAll_demSamples (xs : List Sample) (hact : s.demActive = true) :
    execAll (xs.map .demSample) s = .next (respondOks xs.length (xs.foldl takeSample s)) := by
  induction xs generalizing s with
  | nil => exact congrArg _ (respondOks_zero s).symm
  | cons x xs ih =>
    have hopen : (respond .ok .none (takeSample s x)).demActive = true := by
      rwa [respond_demActive, takeSample_demActive]
    rw [List.map_cons, execAll_cons_of_next (exec_demSample x hact), ih hopen, foldl_takeSample_respond,
      respondOks_respond, List.foldl_cons, List.length_cons]

/-- The preamble's samples are skipped (R35). -/
theorem foldl_takeSample_skips (xs : List Sample) (h : xs.length ≤ s.demSkip.toNat) :
    xs.foldl takeSample s = { s with demSkip := BitVec.ofNat 32 (s.demSkip.toNat - xs.length) } := by
  induction xs generalizing s with
  | nil => simp
  | cons x xs ih =>
    rw [List.length_cons] at h
    have hne : s.demSkip ≠ 0 := fun h0 => by simp [h0] at h
    have hdec : (s.demSkip - 1).toNat = s.demSkip.toNat - 1 := by bv_omega
    rw [List.foldl_cons, takeSample, if_pos hne, ih (by rw [hdec]; omega), hdec, List.length_cons, Nat.sub_sub,
      Nat.add_comm 1]

end Samples

/-! ### A window's samples (R192, R198) -/

section Window

variable {s : State} {w : List Sample}

/-- Samples into the filters, no window completed. -/
def feedAll (w : List Sample) (s : State) : State := w.foldl (fun t x => feedFilters Config.num x t) s

theorem feedAll_append (w : List Sample) (x : Sample) (s : State) :
    feedAll (w ++ [x]) s = feedFilters Config.num x (feedAll w s) := by
  rw [feedAll, List.foldl_append]
  rfl

/-- Feeding writes the filters and DEM_WCNT only. -/
theorem feedAll_state (w : List Sample) (s : State) : feedAll w s =
    { s with
      s1_0 := (w.foldl (goertzelStep Config.num (coeff Config.num s.cfg false)) (s.s1_0, s.s2_0)).1
      s2_0 := (w.foldl (goertzelStep Config.num (coeff Config.num s.cfg false)) (s.s1_0, s.s2_0)).2
      s1_1 := (w.foldl (goertzelStep Config.num (coeff Config.num s.cfg true)) (s.s1_1, s.s2_1)).1
      s2_1 := (w.foldl (goertzelStep Config.num (coeff Config.num s.cfg true)) (s.s1_1, s.s2_1)).2
      demWcnt := s.demWcnt + BitVec.ofNat 32 w.length } := by
  induction w generalizing s with
  | nil => simp [feedAll]
  | cons x w ih =>
    have hcount : s.demWcnt + 1 + BitVec.ofNat 32 w.length = s.demWcnt + BitVec.ofNat 32 (x :: w).length := by
      rw [List.length_cons, Nat.add_comm, BitVec.ofNat_add, BitVec.add_assoc]
      rfl
    refine (ih (feedFilters Config.num x s)).trans ?_
    rw [← hcount]
    rfl

/-- Samples that do not complete a window are fed to the filters. -/
theorem foldl_takeSample_feeds (hskip : s.demSkip = 0) (hlegal : s.demWcnt.toNat + w.length < spb s.cfg) :
    w.foldl takeSample s = feedAll w s := by
  induction w generalizing s with
  | nil => rfl
  | cons x w ih =>
    rw [List.length_cons] at hlegal
    have hsucc := wcnt_succ_toNat (s := s) (by omega)
    have hstep : takeSample s x = feedFilters Config.num x s := by
      rw [takeSample, if_neg (not_not.2 hskip), if_neg (by omega)]
    rw [List.foldl_cons, hstep, ih (by exact hskip) (by rw [feedFilters_demWcnt, hsucc, feedFilters_cfg]; omega)]
    rfl

/-- The detector stands at a window's start. -/
structure AtWindow (c : Cfg) (s : State) : Prop where
  cfg : s.cfg = c
  skip : s.demSkip = 0
  wcnt : s.demWcnt = 0
  filters : FiltersZero s

/-- A window's samples are fed, and at the last one the window is closed. -/
theorem AtWindow.foldl_takeSample {c : Cfg} (h : AtWindow c s) (hlegal : cfgLegal c = true) (hw : w.length = spb c) :
    w.foldl takeSample s = closeWindow Config.num (feedAll w s) := by
  obtain ⟨hcfg, hskip, hwcnt, -⟩ := h
  have hpos := spb_pos hlegal
  have hmax : spb c ≤ 1048576 := spb_le c
  obtain ⟨init, x, rfl⟩ : ∃ init x, w = init ++ [x] :=
    ⟨w.dropLast, w.getLast (List.ne_nil_of_length_pos (by omega)), (List.dropLast_append_getLast _).symm⟩
  rw [List.length_append, List.length_singleton] at hw
  have hcount : (feedAll init s).demWcnt = BitVec.ofNat 32 init.length := by
    rw [feedAll_state, hwcnt]
    exact BitVec.zero_add _
  have hcfg' : (feedAll init s).cfg = c := by
    rw [feedAll_state]
    exact hcfg
  have hinit : (BitVec.ofNat 32 init.length).toNat = init.length := Nat.mod_eq_of_lt (by omega)
  have hfull : ((feedAll init s).demWcnt + 1).toNat = spb (feedAll init s).cfg := by
    rw [hcount, hcfg', toNat_succ_of_lt (by omega), hinit, hw]
  have hfits : s.demWcnt.toNat + init.length < spb s.cfg := by
    rw [hwcnt, hcfg]
    show 0 + init.length < spb c
    omega
  have hskip' : (feedAll init s).demSkip = 0 := by
    rw [feedAll_state]
    exact hskip
  rw [List.foldl_append, foldl_takeSample_feeds hskip hfits, List.foldl_cons, List.foldl_nil,
    takeSample, if_neg (not_not.2 hskip'), if_pos hfull, feedAll_append]

/-- The window's end decides R195's bit of its samples, and the detector stands at the next window's start. -/
theorem AtWindow.closeWindow {c : Cfg} {rx : List Byte} {bits : List Bool} (h : AtWindow c s)
    (hbits : Received rx bits s) :
    AtWindow c (closeWindow Config.num (feedAll w s)) ∧
      Received rx (bits ++ [decideBit Config.num c w]) (closeWindow Config.num (feedAll w s)) := by
  obtain ⟨rfl, hskip, -, h10, h20, h11, h21⟩ := h
  have hdecides : Config.num.gt
      (power Config.num (feedAll w s).s1_1 (feedAll w s).s2_1 (coeff Config.num (feedAll w s).cfg true))
      (power Config.num (feedAll w s).s1_0 (feedAll w s).s2_0 (coeff Config.num (feedAll w s).cfg false)) =
      decideBit Config.num s.cfg w := by
    rw [feedAll_state, h10, h20, h11, h21]
    rfl
  have hfed : Received rx bits (feedAll w s) := by
    rw [feedAll_state]
    exact hbits.of_same rfl rfl rfl
  refine ⟨⟨?_, ?_, closeWindow_demWcnt _ _, closeWindow_filtersZero _⟩, ?_⟩
  · rw [closeWindow_cfg, feedAll_state]
    rfl
  · rw [closeWindow_demSkip, feedAll_state]
    exact hskip
  · rw [closeWindow_eq, hdecides]
    exact (hfed.shiftInBit _).of_same rfl rfl rfl

end Window

/-! ### The windows of a frame (R196) -/

section Frame

variable {c : Cfg} {rx : List Byte} {s : State} {xs : List Sample}

theorem windowAt_length {j : Nat} (h : preambleSamples c + (j + 1) * spb c ≤ xs.length) :
    (windowAt c xs j).length = spb c := by
  rw [Nat.succ_mul] at h
  rw [windowAt, List.length_take, List.length_drop]
  omega

theorem take_windows_succ (c : Cfg) (xs : List Sample) (j : Nat) :
    xs.take (preambleSamples c + (j + 1) * spb c) =
      xs.take (preambleSamples c + j * spb c) ++ windowAt c xs j := by
  rw [Nat.succ_mul, ← Nat.add_assoc, List.take_add, windowAt]

/-- After the preamble and `j` windows the detector has received the bits of those windows. -/
theorem foldl_takeSample_windows (hlegal : cfgLegal c = true)
    (hstart : AtWindow c ((xs.take (preambleSamples c)).foldl takeSample s))
    (hnone : Received rx [] ((xs.take (preambleSamples c)).foldl takeSample s))
    (j : Nat) (hj : preambleSamples c + j * spb c ≤ xs.length) :
    AtWindow c ((xs.take (preambleSamples c + j * spb c)).foldl takeSample s) ∧
      Received rx ((List.range j).map fun i => decideBit Config.num c (windowAt c xs i))
        ((xs.take (preambleSamples c + j * spb c)).foldl takeSample s) := by
  induction j with
  | zero =>
    rw [Nat.zero_mul, Nat.add_zero]
    exact ⟨hstart, hnone⟩
  | succ j ih =>
    have hle : preambleSamples c + j * spb c ≤ xs.length := by
      rw [Nat.succ_mul] at hj
      omega
    obtain ⟨hat, hbits⟩ := ih hle
    rw [take_windows_succ, List.foldl_append, hat.foldl_takeSample hlegal (windowAt_length hj), List.range_succ,
      List.map_append]
    exact hat.closeWindow hbits

/-- The state with a receive frame just opened (R197). -/
def openedReceive (s : State) : State :=
  { clearFilters Config.num s with
    demSkip := BitVec.ofNat 32 (preambleSamples s.cfg), demWcnt := 0, demBsr := 0, demBcnt := 0, demActive := true }

theorem openedReceive_demSkip (s : State) : (openedReceive s).demSkip.toNat = preambleSamples s.cfg :=
  Nat.mod_eq_of_lt (preamble_fits s.cfg)

theorem openedReceive_received (s : State) : Received s.rxlog [] (openedReceive s) :=
  ⟨rfl, rfl, (List.append_nil _).symm⟩

/-- The preamble skipped, nothing is decided yet. -/
theorem foldl_takeSample_preamble (hle : preambleSamples s.cfg ≤ xs.length) :
    AtWindow s.cfg ((xs.take (preambleSamples s.cfg)).foldl takeSample (openedReceive s)) ∧
      Received s.rxlog [] ((xs.take (preambleSamples s.cfg)).foldl takeSample (openedReceive s)) := by
  have hlength : (xs.take (preambleSamples s.cfg)).length = preambleSamples s.cfg := List.length_take_of_le hle
  rw [foldl_takeSample_skips _ (by rw [openedReceive_demSkip, hlength]), openedReceive_demSkip, hlength, Nat.sub_self]
  exact ⟨⟨rfl, rfl, rfl, rfl, rfl, rfl, rfl⟩, (openedReceive_received s).of_same rfl rfl rfl⟩

/-- All the samples of a frame leave RXLOG with the bytes of `demodulate` (R196). -/
theorem foldl_takeSample_rxlog (hlegal : cfgLegal s.cfg = true) (xs : List Sample) :
    (xs.foldl takeSample (openedReceive s)).rxlog = s.rxlog ++ demodulate Config.num s.cfg xs := by
  by_cases hle : preambleSamples s.cfg ≤ xs.length
  · obtain ⟨hstart, hnone⟩ := foldl_takeSample_preamble hle
    have hcount : windowCount s.cfg xs.length = (xs.length - preambleSamples s.cfg) / spb s.cfg := if_pos hle
    have hdiv := Nat.div_add_mod (xs.length - preambleSamples s.cfg) (spb s.cfg)
    have hrest := Nat.mod_lt (xs.length - preambleSamples s.cfg) (spb_pos hlegal)
    rw [← hcount, Nat.mul_comm] at hdiv
    obtain ⟨hat, hbits⟩ := foldl_takeSample_windows hlegal hstart hnone (windowCount s.cfg xs.length) (by omega)
    obtain ⟨hcfg, hskip, hwcnt, -⟩ := hat
    have hdrop : (xs.drop (preambleSamples s.cfg + windowCount s.cfg xs.length * spb s.cfg)).length < spb s.cfg := by
      rw [List.length_drop]
      omega
    conv_lhs => rw [← List.take_append_drop (preambleSamples s.cfg + windowCount s.cfg xs.length * spb s.cfg) xs]
    rw [List.foldl_append, foldl_takeSample_feeds hskip (by rw [hwcnt, hcfg]; exact (Nat.zero_add _).trans_lt hdrop),
      feedAll_state]
    refine hbits.log.trans ?_
    rw [List.length_map, List.length_range]
    rfl
  · have hcount : windowCount s.cfg xs.length = 0 := if_neg hle
    rw [foldl_takeSample_skips _ (by rw [openedReceive_demSkip]; omega), demodulate, hcount]
    exact (List.append_nil _).symm

end Frame

/-! ### The rest of the block (R197 to R199) -/

section Untouched

/-- What a detector command leaves alone. -/
def DetectorFrame (s t : State) : Prop :=
  SameConfig s t ∧ SameCrc s t ∧ SameModulator s t ∧ SamePacket s t ∧ SamePbuf s t

theorem DetectorFrame.trans {s t u : State} (h : DetectorFrame s t) (h' : DetectorFrame t u) : DetectorFrame s u := by
  obtain ⟨hcfg, hcrc, ⟨hact, hmodN, htx⟩, ⟨hlen, hcalc⟩, hpbuf⟩ := h
  obtain ⟨hcfg', hcrc', ⟨hact', hmodN', htx'⟩, ⟨hlen', hcalc'⟩, hpbuf'⟩ := h'
  exact ⟨hcfg.trans hcfg', hcrc'.trans hcrc, ⟨hact'.trans hact, hmodN'.trans hmodN, htx'.trans htx⟩,
    ⟨hlen'.trans hlen, hcalc'.trans hcalc⟩, fun a => (hpbuf' a).trans (hpbuf a)⟩

theorem execAll_detectorFrame {is : List Instr} {s t : State} (hall : ∀ i ∈ is, IsDetectorCommand i)
    (h : execAll is s = .next t) : DetectorFrame s t := by
  induction is generalizing s with
  | nil =>
    obtain rfl : s = t := Host.Outcome.next.inj h
    exact ⟨rfl, rfl, ⟨rfl, rfl, rfl⟩, ⟨rfl, rfl⟩, fun _ => rfl⟩
  | cons i is ih =>
    obtain ⟨c, d, u, hexec, heff⟩ := exec_hasEffect i s
    rw [execAll_cons_of_next hexec] at h
    have hfirst : DetectorFrame s (respond c d u) := heff.detector_frame (hall i List.mem_cons_self)
    exact hfirst.trans (ih (fun j hj => hall j (List.mem_cons_of_mem _ hj)) h)

theorem isDetectorCommand_of_mem_demodulate {xs : List Sample} {i : Instr}
    (h : i ∈ pseudoCommands (.demodulate xs)) : IsDetectorCommand i := by
  simp only [pseudoCommands, List.mem_append, List.mem_singleton, List.mem_map] at h
  rcases h with (rfl | ⟨x, -, rfl⟩) | rfl
  · exact .inl rfl
  · exact .inr (.inl ⟨x, rfl⟩)
  · exact .inr (.inr rfl)

end Untouched

/-! ### The statement -/

/-- Settles O35: DEM_START opens the frame, the samples leave the bytes of `demodulate` in RXLOG, and DEM_END closes the
frame; all of them are detector commands. -/
theorem demodulateStreamEmitsDemodulate : Obligations.DemodulateStreamEmitsDemodulate := by
  intro xs s hclosed hlegal
  have hstart : exec .demStart s = .next (respond .ok .none (openedReceive s)) := runDemStart_legal _ hclosed hlegal
  have hsamples := execAll_demSamples (s := respond .ok .none (openedReceive s)) xs rfl
  rw [foldl_takeSample_respond, respondOks_respond] at hsamples
  have hopen : (respondOks (xs.length + 1) (xs.foldl takeSample (openedReceive s))).demActive = true :=
    foldl_takeSample_demActive xs (openedReceive s)
  have hall := (execAll_cons_of_next hstart).trans ((execAll_append_of_next (js := [.demEnd]) hsamples).trans
    (execAll_cons_of_next (is := []) (exec_demEnd_open hopen)))
  have hframe := execAll_detectorFrame (fun i => isDetectorCommand_of_mem_demodulate) hall
  refine ⟨_, hall, ?_, rfl, ?_, hframe⟩
  · exact foldl_takeSample_rxlog hlegal xs
  · show (xs.foldl takeSample (openedReceive s)).responses ++ List.replicate (xs.length + 1) ⟨.ok, .none⟩ ++ [_] = _
    rw [foldl_takeSample_responses, List.append_assoc, ← List.replicate_succ']
    rfl

end Sys2Proof.Machine
end

section
/-! PROOFS. NUM_F64 (R14): a datum as a sign and a magnitude, whose values rise with the magnitude; the comparison; the
rounding to nearest, ties to even; and what a non-finite sample makes of a window (R265). -/

namespace Sys2Proof.Machine

/-! ### A datum as a sign and a magnitude -/

section Magnitude

variable {x y : F64}

/-- The 63 bits below the sign. -/
def f64Mag (x : F64) : Nat := (x.extractLsb' 0 63).toNat

/-- The magnitude of the infinities: the finite ones are below it, the NaNs' above. -/
def f64InfMag : Nat := 2047 * 2 ^ 52

theorem f64Mag_eq (x : F64) : f64Mag x = x.toNat % 2 ^ 63 := by
  rw [f64Mag, BitVec.extractLsb'_toNat, Nat.shiftRight_zero]

theorem f64Mag_lt (x : F64) : f64Mag x < 2 ^ 63 := (x.extractLsb' 0 63).isLt

theorem f64Exp_eq (x : F64) : f64Exp x = f64Mag x / 2 ^ 52 := by
  rw [f64Exp, f64Mag_eq, BitVec.extractLsb'_toNat, Nat.shiftRight_eq_div_pow]
  omega

theorem f64Frac_eq (x : F64) : f64Frac x = f64Mag x % 2 ^ 52 := by
  rw [f64Frac, f64Mag_eq, BitVec.extractLsb'_toNat, Nat.shiftRight_zero]
  omega

theorem f64Sign_eq (x : F64) : f64Sign x = decide (2 ^ 63 ≤ x.toNat) := by
  rw [f64Sign, BitVec.getLsbD, Nat.testBit_eq_decide_div_mod_eq, decide_eq_decide]
  have hx : x.toNat < 2 ^ 64 := x.isLt
  omega

/-- A datum is its sign and its magnitude. -/
theorem f64_ext (hsign : f64Sign x = f64Sign y) (hmag : f64Mag x = f64Mag y) : x = y := by
  have hx : x.toNat < 2 ^ 64 := x.isLt
  have hy : y.toNat < 2 ^ 64 := y.isLt
  rw [f64Sign_eq, f64Sign_eq, decide_eq_decide] at hsign
  rw [f64Mag_eq, f64Mag_eq] at hmag
  apply BitVec.eq_of_toNat_eq
  omega

theorem f64IsFinite_iff (x : F64) : f64IsFinite x = true ↔ f64Mag x < f64InfMag := by
  have hx := f64Mag_lt x
  rw [f64IsFinite, bne_iff_ne, f64Exp_eq, f64InfMag]
  omega

theorem f64IsInf_iff (x : F64) : f64IsInf x = true ↔ f64Mag x = f64InfMag := by
  rw [f64IsInf, Bool.and_eq_true, beq_iff_eq, beq_iff_eq, f64Exp_eq, f64Frac_eq, f64InfMag]
  omega

theorem f64IsNaN_iff (x : F64) : f64IsNaN x = true ↔ f64InfMag < f64Mag x := by
  have hx := f64Mag_lt x
  rw [f64IsNaN, Bool.and_eq_true, beq_iff_eq, bne_iff_ne, f64Exp_eq, f64Frac_eq, f64InfMag]
  omega

theorem f64IsFinite_eq_false_iff (x : F64) : f64IsFinite x = false ↔ f64IsNaN x = true ∨ f64IsInf x = true := by
  rw [← Bool.not_eq_true, f64IsFinite_iff, f64IsNaN_iff, f64IsInf_iff]
  omega

theorem not_nan_of_finite (h : f64IsFinite x = true) : f64IsNaN x = false := by
  rw [← Bool.not_eq_true, f64IsNaN_iff]
  rw [f64IsFinite_iff] at h
  omega

theorem not_inf_of_finite (h : f64IsFinite x = true) : f64IsInf x = false := by
  rw [← Bool.not_eq_true, f64IsInf_iff]
  rw [f64IsFinite_iff] at h
  omega

theorem toNat_append_eq_add {v w : Nat} (a : BitVec v) (b : BitVec w) :
    (a ++ b).toNat = a.toNat * 2 ^ w + b.toNat := by
  rw [BitVec.toNat_append, Nat.shiftLeft_eq, mul_comm, Nat.two_pow_add_eq_or_of_lt b.isLt]

theorem f64Make_toNat (neg : Bool) {mag : Nat} (h : mag < 2 ^ 63) :
    (f64Make neg mag).toNat = neg.toNat * 2 ^ 63 + mag := by
  rw [f64Make, toNat_append_eq_add, BitVec.toNat_ofBool, BitVec.toNat_ofNat, Nat.mod_eq_of_lt h]

theorem f64Mag_make (neg : Bool) {mag : Nat} (h : mag < 2 ^ 63) : f64Mag (f64Make neg mag) = mag := by
  rw [f64Mag_eq, f64Make_toNat neg h]
  omega

theorem f64Sign_make (neg : Bool) {mag : Nat} (h : mag < 2 ^ 63) : f64Sign (f64Make neg mag) = neg := by
  rw [f64Sign_eq, f64Make_toNat neg h]
  cases neg with
  | false => exact decide_eq_false (by simpa using h)
  | true => exact decide_eq_true (by simp)

theorem f64InfMag_lt : f64InfMag < 2 ^ 63 := by decide

theorem f64Mag_inf (neg : Bool) : f64Mag (f64Inf neg) = f64InfMag := f64Mag_make neg f64InfMag_lt

theorem f64Sign_inf (neg : Bool) : f64Sign (f64Inf neg) = neg := f64Sign_make neg f64InfMag_lt

/-- An infinity is the one of its sign. -/
theorem eq_f64Inf_of_isInf (h : f64IsInf x = true) : x = f64Inf (f64Sign x) :=
  f64_ext (f64Sign_inf _).symm (((f64IsInf_iff x).1 h).trans (f64Mag_inf _).symm)

end Magnitude

/-! ### The values rise with the magnitude -/

section Units

/-- The value of a magnitude in units of 2^-1074. -/
def unitsOf (m : Nat) : Nat :=
  if m / 2 ^ 52 = 0 then m % 2 ^ 52 else (2 ^ 52 + m % 2 ^ 52) * 2 ^ (m / 2 ^ 52 - 1)

theorem f64Units_eq (x : F64) : f64Units x = unitsOf (f64Mag x) := by
  rw [f64Units, unitsOf, f64Exp_eq, f64Frac_eq]

theorem unitsOf_lt_pow (m : Nat) : unitsOf m < 2 ^ (52 + m / 2 ^ 52) := by
  have hfrac : m % 2 ^ 52 < 2 ^ 52 := Nat.mod_lt _ (by decide)
  rw [unitsOf]
  split_ifs with he
  · rwa [he]
  · obtain ⟨e, he'⟩ := Nat.exists_eq_succ_of_ne_zero he
    rw [he', Nat.succ_sub_one, show 52 + e.succ = 53 + e by omega, pow_add]
    exact Nat.mul_lt_mul_of_pos_right (by omega) (by positivity)

theorem pow_le_unitsOf {m : Nat} (h : m / 2 ^ 52 ≠ 0) : 2 ^ (52 + (m / 2 ^ 52 - 1)) ≤ unitsOf m := by
  rw [unitsOf, if_neg h, pow_add]
  exact Nat.mul_le_mul_right _ (Nat.le_add_right _ _)

theorem unitsOf_strictMono : StrictMono unitsOf := by
  intro m n hmn
  rcases (Nat.div_le_div_right hmn.le : m / 2 ^ 52 ≤ n / 2 ^ 52).eq_or_lt with he | he
  · have hfrac : m % 2 ^ 52 < n % 2 ^ 52 := by omega
    rw [unitsOf, unitsOf, he]
    split_ifs
    · exact hfrac
    · exact Nat.mul_lt_mul_of_pos_right (by omega) (by positivity)
  · calc unitsOf m
      _ < 2 ^ (52 + m / 2 ^ 52) := unitsOf_lt_pow m
      _ ≤ 2 ^ (52 + (n / 2 ^ 52 - 1)) := Nat.pow_le_pow_right (by decide) (by omega)
      _ ≤ unitsOf n := pow_le_unitsOf (by omega)

theorem unitsOf_zero : unitsOf 0 = 0 := rfl

theorem unitsOf_pos_iff {m : Nat} : 0 < unitsOf m ↔ 0 < m := unitsOf_strictMono.lt_iff_lt (a := 0)

/-- The signed numbers of two magnitudes compare as their signed values do. -/
theorem f64Key_lt_iff (x y : F64) : f64Key y < f64Key x ↔ f64Int y < f64Int x := by
  have hkey (z : F64) : f64Key z = if f64Sign z then -(f64Mag z : Int) else f64Mag z := rfl
  have hlt := unitsOf_strictMono.lt_iff_lt (a := f64Mag y) (b := f64Mag x)
  have hgt := unitsOf_strictMono.lt_iff_lt (a := f64Mag x) (b := f64Mag y)
  have hx := unitsOf_pos_iff (m := f64Mag x)
  have hy := unitsOf_pos_iff (m := f64Mag y)
  rw [hkey, hkey, f64Int, f64Int, f64Units_eq, f64Units_eq]
  cases f64Sign x <;> cases f64Sign y <;> simp <;> omega

theorem f64Value_lt_iff (x y : F64) : f64Value y < f64Value x ↔ f64Int y < f64Int x := by
  rw [f64Value, f64Value, div_lt_div_iff_of_pos_right (by positivity), Int.cast_lt]

end Units

/-! ### The comparison -/

section Compare

variable {x y : F64}

theorem f64Key_eq (x : F64) : f64Key x = if f64Sign x then -(f64Mag x : Int) else f64Mag x := rfl

theorem f64Gt_iff : f64Gt x y = true ↔ f64IsNaN x = false ∧ f64IsNaN y = false ∧ f64Key y < f64Key x := by
  rw [f64Gt, Bool.and_eq_true, Bool.and_eq_true, Bool.not_eq_true', Bool.not_eq_true', decide_eq_true_iff, and_assoc]

theorem f64Gt_of_nan (h : f64IsNaN x = true ∨ f64IsNaN y = true) : f64Gt x y = false := by
  rw [← Bool.not_eq_true, f64Gt_iff]
  rintro ⟨hx, hy, -⟩
  simp [hx, hy] at h

theorem f64Gt_self (x : F64) : f64Gt x x = false := by
  rw [← Bool.not_eq_true, f64Gt_iff]
  exact fun h => lt_irrefl _ h.2.2

theorem f64Gt_iff_of_finite (hx : f64IsFinite x = true) (hy : f64IsFinite y = true) :
    f64Gt x y = true ↔ f64Value y < f64Value x := by
  rw [f64Gt_iff, f64Key_lt_iff, f64Value_lt_iff]
  exact ⟨fun h => h.2.2, fun h => ⟨not_nan_of_finite hx, not_nan_of_finite hy, h⟩⟩

theorem not_nan_of_inf (h : f64IsInf x = true) : f64IsNaN x = false := by
  rw [← Bool.not_eq_true, f64IsNaN_iff, ← (f64IsInf_iff x).1 h]
  exact lt_irrefl _

/-- Any datum that is no NaN and not this infinity lies on its finite side. -/
theorem f64Key_lt_inf (hx : f64IsInf x = true) (hy : f64IsNaN y = false) (hne : y ≠ x) :
    if f64Sign x then f64Key x < f64Key y else f64Key y < f64Key x := by
  have hxmag := (f64IsInf_iff x).1 hx
  have hymag : f64Mag y ≤ f64InfMag := by rwa [← Bool.not_eq_true, f64IsNaN_iff, not_lt] at hy
  have hpos : 0 < f64InfMag := by decide
  have hlt : f64Sign y = f64Sign x → f64Mag y < f64InfMag := fun hsign =>
    hymag.lt_of_ne fun hmag => hne (f64_ext hsign (hmag.trans hxmag.symm))
  rw [f64Key_eq, f64Key_eq, hxmag]
  cases hsx : f64Sign x <;> cases hsy : f64Sign y <;> simp [hsx, hsy] at hlt ⊢ <;> omega

/-- Settles O41. -/
theorem f64GtIsTheOrderedComparison : Obligations.F64GtIsTheOrderedComparison := by
  intro x y
  refine ⟨f64Gt_of_nan, f64Gt_iff_of_finite, fun hx hy hne => ?_, fun _ => f64Gt_self x⟩
  have hxnan := not_nan_of_inf hx
  have hkey := f64Key_lt_inf hx hy hne
  constructor <;> intro hsign <;> rw [hsign] at hkey
  · exact ⟨f64Gt_iff.2 ⟨hxnan, hy, hkey⟩, Bool.eq_false_iff.2 fun h => hkey.not_gt (f64Gt_iff.1 h).2.2⟩
  · exact ⟨Bool.eq_false_iff.2 fun h => hkey.not_gt (f64Gt_iff.1 h).2.2, f64Gt_iff.2 ⟨hy, hxnan, hkey⟩⟩

end Compare

/-! ### Non-finite data in the arithmetic -/

section NonFinite

variable {x y : F64}

theorem f64IsNaN_nan (x y : F64) : f64IsNaN (f64NaN x y) = true := by
  have hsign := ((Config.nanBits x y).extractLsb' 51 1).isLt
  have hfrac := ((Config.nanBits x y).extractLsb' 0 51).isLt
  rw [f64IsNaN_iff, f64Mag_eq, f64NaN, toNat_append_eq_add, toNat_append_eq_add, f64InfMag,
    show (0xFFF : BitVec 12).toNat = 4095 from rfl]
  omega

theorem f64IsInf_inf (neg : Bool) : f64IsInf (f64Inf neg) = true := (f64IsInf_iff _).2 (f64Mag_inf neg)

theorem not_finite_of_nan (h : f64IsNaN x = true) : f64IsFinite x = false := (f64IsFinite_eq_false_iff x).2 (.inl h)

theorem not_finite_of_inf (h : f64IsInf x = true) : f64IsFinite x = false := (f64IsFinite_eq_false_iff x).2 (.inr h)

theorem f64Mag_neg (x : F64) : f64Mag (f64Neg x) = f64Mag x := by
  have hbits : (0x8000000000000000 : F64).extractLsb' 0 63 = 0#63 := by decide
  rw [f64Mag, f64Mag, f64Neg, BitVec.extractLsb'_xor, hbits, BitVec.xor_zero]

theorem f64Sign_neg (x : F64) : f64Sign (f64Neg x) = !f64Sign x := by
  rw [f64Sign, f64Sign, f64Neg, BitVec.getLsbD_xor]
  exact Bool.xor_true _

theorem f64IsFinite_neg (x : F64) : f64IsFinite (f64Neg x) = f64IsFinite x := by
  rw [Bool.eq_iff_iff, f64IsFinite_iff, f64IsFinite_iff, f64Mag_neg]

/-- A sum with a non-finite first operand: a NaN, or that operand. -/
theorem f64Add_left (hx : f64IsFinite x = false) : f64IsNaN (f64Add x y) = true ∨ f64Add x y = x := by
  rw [f64Add]
  split_ifs with hnan hinf
  · exact .inl (f64IsNaN_nan x y)
  · exact .inl (f64IsNaN_nan x y)
  · exact .inr rfl
  all_goals
    simp only [Bool.or_eq_true, not_or] at hnan
    exact absurd ((f64IsFinite_eq_false_iff x).1 hx) (by tauto)

theorem f64Add_left_not_finite (hx : f64IsFinite x = false) : f64IsFinite (f64Add x y) = false := by
  rcases f64Add_left hx (y := y) with h | h
  · exact not_finite_of_nan h
  · rwa [h]

theorem f64Add_right_not_finite (hy : f64IsFinite y = false) : f64IsFinite (f64Add x y) = false := by
  rw [f64Add]
  split_ifs with hnan hinf _ hinf
  · exact not_finite_of_nan (f64IsNaN_nan x y)
  · exact not_finite_of_nan (f64IsNaN_nan x y)
  · exact not_finite_of_inf hinf
  · exact hy
  all_goals
    simp only [Bool.or_eq_true, not_or] at hnan
    exact absurd ((f64IsFinite_eq_false_iff y).1 hy) (by tauto)

theorem f64Sub_left_not_finite (hx : f64IsFinite x = false) : f64IsFinite (f64Sub x y) = false :=
  f64Add_left_not_finite hx

/-- A product with a non-finite operand: a NaN, or the infinity of the product's sign. -/
theorem f64Mul_of_not_finite (h : f64IsFinite x = false ∨ f64IsFinite y = false) :
    f64IsNaN (f64Mul x y) = true ∨ f64Mul x y = f64Inf (f64Sign x != f64Sign y) := by
  rw [f64Mul]
  split_ifs with hnan
  · exact .inl (f64IsNaN_nan x y)
  · exact .inl (f64IsNaN_nan x y)
  · exact .inr rfl
  · exact .inl (f64IsNaN_nan x y)
  · exact .inr rfl
  · rw [f64IsFinite_eq_false_iff, f64IsFinite_eq_false_iff] at h
    simp only [Bool.or_eq_true, not_or] at hnan
    exact absurd h (by tauto)

theorem f64Mul_not_finite (h : f64IsFinite x = false ∨ f64IsFinite y = false) : f64IsFinite (f64Mul x y) = false := by
  rcases f64Mul_of_not_finite h with h | h
  · exact not_finite_of_nan h
  · rw [h]
    exact not_finite_of_inf (f64IsInf_inf _)

end NonFinite

/-! ### A window with a non-finite sample -/

section Window

/-- A NaN or +∞, what a power becomes from a non-finite state. -/
def f64TopOrNaN (x : F64) : Prop := f64IsNaN x = true ∨ x = f64Inf false

theorem f64TopOrNaN.not_finite {x : F64} (h : f64TopOrNaN x) : f64IsFinite x = false := by
  rcases h with h | rfl
  · exact not_finite_of_nan h
  · exact not_finite_of_inf (f64IsInf_inf _)

theorem f64TopOrNaN.add {x : F64} (h : f64TopOrNaN x) (y : F64) : f64TopOrNaN (f64Add x y) := by
  rcases f64Add_left h.not_finite (y := y) with hsum | hsum
  · exact .inl hsum
  · rwa [hsum]

theorem f64TopOrNaN_square {x : F64} (h : f64IsFinite x = false) : f64TopOrNaN (f64Mul x x) := by
  rcases f64Mul_of_not_finite (.inl h : f64IsFinite x = false ∨ f64IsFinite x = false) with hsq | hsq
  · exact .inl hsq
  · exact .inr (by rw [hsq, bne_self_eq_false])

theorem f64TopOrNaN_power {s1 : F64} (h : f64IsFinite s1 = false) (s2 k : F64) :
    f64TopOrNaN (power numF64 s1 s2 k) :=
  ((f64TopOrNaN_square h).add _).add _

/-- Neither of two such powers is above the other. -/
theorem f64TopOrNaN.gt_eq_false {x y : F64} (hx : f64TopOrNaN x) (hy : f64TopOrNaN y) : f64Gt x y = false := by
  rcases hx with hx | rfl
  · exact f64Gt_of_nan (.inl hx)
  · rcases hy with hy | rfl
    · exact f64Gt_of_nan (.inr hy)
    · exact f64Gt_self _

/-- The detector's first state value turns non-finite at a non-finite sample and stays so. -/
theorem goertzelStep_not_finite (k : F64) {st : F64 × F64} {x : F64}
    (h : f64IsFinite st.1 = false ∨ f64IsFinite x = false) :
    f64IsFinite (goertzelStep numF64 k st x).1 = false := by
  apply f64Sub_left_not_finite
  rcases h with hst | hx
  · exact f64Add_right_not_finite (f64Mul_not_finite (.inr hst))
  · exact f64Add_left_not_finite hx

theorem goertzelFold_not_finite (k : F64) (w : List F64) (st : F64 × F64)
    (h : f64IsFinite st.1 = false ∨ ∃ x ∈ w, f64IsFinite x = false) :
    f64IsFinite (w.foldl (goertzelStep numF64 k) st).1 = false := by
  induction w generalizing st with
  | nil => simpa using h
  | cons y w ih =>
    refine ih _ ?_
    rcases h with hst | ⟨x, hmem, hx⟩
    · exact .inl (goertzelStep_not_finite k (.inl hst))
    · rcases List.mem_cons.1 hmem with rfl | hmem
      · exact .inl (goertzelStep_not_finite k (.inr hx))
      · exact .inr ⟨x, hmem, hx⟩

theorem f64TopOrNaN_windowPower (k : F64) {w : List F64} {x : F64} (hmem : x ∈ w) (hx : f64IsFinite x = false) :
    f64TopOrNaN (windowPower numF64 k w) :=
  f64TopOrNaN_power (goertzelFold_not_finite k w _ (.inr ⟨x, hmem, hx⟩)) _ _

/-- Settles O40: both powers are a NaN or +∞, and none of these is above another. -/
theorem nonFiniteSampleDecidesZero : Obligations.NonFiniteSampleDecidesZero :=
  fun _ _ _ hmem hx => (f64TopOrNaN_windowPower _ hmem hx).gt_eq_false (f64TopOrNaN_windowPower _ hmem hx)

end Window

end Sys2Proof.Machine
end

section
/-! PROOFS. NUM_F64 (R14): the rounding of a sum, a difference or a product is to the nearest binary64, the even one
at a tie. -/

namespace Sys2Proof.Machine

/-! ### The rounded quotient -/

section Quotient

/-- No multiple of `2 ^ d` is nearer to `n` than the rounded quotient's, and one as near leaves that quotient even. -/
theorem divTiesEven_nearest (n d : Nat) (c : Int) :
    ((divTiesEven n d : Int) * 2 ^ d - n).natAbs ≤ (c * 2 ^ d - n).natAbs ∧
    (c ≠ divTiesEven n d → ((divTiesEven n d : Int) * 2 ^ d - n).natAbs = (c * 2 ^ d - n).natAbs →
      divTiesEven n d % 2 = 0) := by
  have hpos : 0 < 2 ^ d := Nat.two_pow_pos d
  have hrem : n % 2 ^ d < 2 ^ d := Nat.mod_lt _ hpos
  have hn : (n : Int) = (n / 2 ^ d : Nat) * (2 ^ d : Nat) + (n % 2 ^ d : Nat) := by
    exact_mod_cast (Nat.div_add_mod' n (2 ^ d)).symm
  rw [show (2 : Int) ^ d = (2 ^ d : Nat) by push_cast; rfl, divTiesEven]
  generalize n / 2 ^ d = q at *
  generalize n % 2 ^ d = r at *
  generalize 2 ^ d = p at *
  have hnext : ((q + 1 : Nat) : Int) * p = q * p + p := by push_cast; ring
  have hc : c * p ≤ q * p - p ∨ c = q ∨ c = (q + 1 : Nat) ∨ q * p + 2 * p ≤ c * p := by
    rcases lt_trichotomy c q with h | h | h
    · left
      nlinarith
    · exact .inr (.inl h)
    · rcases (show (q : Int) + 1 ≤ c from h).eq_or_lt with h | h
      · exact .inr (.inr (.inl (by push_cast; exact h.symm)))
      · right; right; right
        nlinarith
  split_ifs with hup
  · rw [hnext]
    rcases hc with hc | rfl | rfl | hc <;> omega
  · rcases hc with hc | rfl | rfl | hc <;> omega

theorem divTiesEven_bounds (n d : Nat) : n / 2 ^ d ≤ divTiesEven n d ∧ divTiesEven n d ≤ n / 2 ^ d + 1 := by
  rw [divTiesEven]
  split_ifs <;> omega

end Quotient

/-! ### The rounded magnitude -/

section Magnitude

theorem unitsOf_of_lt {m : Nat} (h : m < 2 ^ 52) : unitsOf m = m := by
  rw [unitsOf, if_pos (Nat.div_eq_of_lt h), Nat.mod_eq_of_lt h]

theorem unitsOf_normal (e : Nat) {f : Nat} (h : f < 2 ^ 52) :
    unitsOf ((e + 1) * 2 ^ 52 + f) = (2 ^ 52 + f) * 2 ^ e := by
  have hexp : ((e + 1) * 2 ^ 52 + f) / 2 ^ 52 = e + 1 := by omega
  have hfrac : ((e + 1) * 2 ^ 52 + f) % 2 ^ 52 = f := by omega
  rw [unitsOf, hexp, hfrac, if_neg e.succ_ne_zero, Nat.add_sub_cancel]

/-- A significand added to the exponent `k`, whose carry goes into the exponent. -/
theorem unitsOf_add_significand {k m : Nat} (hle : m ≤ 2 ^ 53) (hnormal : k ≠ 0 → 2 ^ 52 ≤ m) :
    unitsOf (k * 2 ^ 52 + m) = m * 2 ^ k := by
  rcases Nat.lt_or_ge m (2 ^ 52) with hm | hm
  · obtain rfl : k = 0 := by
      by_contra hk
      exact absurd (hnormal hk) (by omega)
    rw [Nat.zero_mul, Nat.zero_add, unitsOf_of_lt hm, pow_zero, mul_one]
  · obtain ⟨f, rfl⟩ := Nat.exists_eq_add_of_le hm
    rcases Nat.lt_or_ge f (2 ^ 52) with hf | hf
    · rw [← unitsOf_normal k hf, show k * 2 ^ 52 + (2 ^ 52 + f) = (k + 1) * 2 ^ 52 + f by omega]
    · have hcarry : k * 2 ^ 52 + (2 ^ 52 + f) = (k + 1 + 1) * 2 ^ 52 + 0 := by omega
      rw [hcarry, unitsOf_normal (k + 1) (Nat.two_pow_pos 52), pow_succ, show f = 2 ^ 52 by omega]
      ring

/-- The exponent above the least one that a quotient `n / 2 ^ shift` is rounded at. -/
def roundExp (n shift : Nat) : Nat := Nat.log2 n - (shift + 52)

/-- The magnitude of the rounded quotient, without the limit. -/
def roundMag (n shift : Nat) : Nat :=
  roundExp n shift * 2 ^ 52 + divTiesEven n (shift + roundExp n shift)

theorem f64Round_eq (neg : Bool) (n shift : Nat) :
    f64Round neg n shift = f64Make neg (min (roundMag n shift) f64InfMag) := rfl

theorem pow_le_of_roundExp {n shift : Nat} (h : roundExp n shift ≠ 0) :
    2 ^ 52 * 2 ^ (shift + roundExp n shift) ≤ n := by
  rw [roundExp] at h ⊢
  have hn : n ≠ 0 := by
    rintro rfl
    simp at h
  calc 2 ^ 52 * 2 ^ (shift + (n.log2 - (shift + 52)))
    _ = 2 ^ n.log2 := by rw [← pow_add]; congr 1; omega
    _ ≤ n := Nat.log2_self_le hn

theorem lt_pow_of_roundExp (n shift : Nat) : n < 2 ^ 53 * 2 ^ (shift + roundExp n shift) :=
  calc n
    _ < 2 ^ (n.log2 + 1) := Nat.lt_log2_self
    _ ≤ 2 ^ (53 + (shift + roundExp n shift)) := Nat.pow_le_pow_right (by decide) (by rw [roundExp]; omega)
    _ = 2 ^ 53 * 2 ^ (shift + roundExp n shift) := pow_add _ _ _

theorem unitsOf_roundMag (n shift : Nat) :
    unitsOf (roundMag n shift) = divTiesEven n (shift + roundExp n shift) * 2 ^ roundExp n shift := by
  obtain ⟨hlow, hhigh⟩ := divTiesEven_bounds n (shift + roundExp n shift)
  apply unitsOf_add_significand
  · exact hhigh.trans (Nat.div_lt_of_lt_mul (by rw [mul_comm]; exact lt_pow_of_roundExp n shift))
  · exact fun h => le_trans ((Nat.le_div_iff_mul_le (Nat.two_pow_pos _)).2 (pow_le_of_roundExp h)) hlow

/-- A value is a multiple of `2 ^ k`, or below the least value of the exponent that gives these. -/
theorem pow_dvd_unitsOf_or_lt (k m : Nat) : 2 ^ k ∣ unitsOf m ∨ unitsOf m < 2 ^ 52 * 2 ^ k := by
  rcases Nat.lt_or_ge k (m / 2 ^ 52) with hk | hk
  · left
    rw [unitsOf, if_neg (by omega)]
    exact (Nat.pow_dvd_pow 2 (by omega)).mul_left _
  · right
    rw [← pow_add]
    exact (unitsOf_lt_pow m).trans_le (Nat.pow_le_pow_right (by decide) (by omega))

/-- No value of either sign is nearer to `n / 2 ^ shift` than the rounded magnitude's, and one as near leaves the
magnitude even. -/
theorem roundMag_nearest (n shift : Nat) {u : Int} {m : Nat} (hu : u.natAbs = unitsOf m) :
    ((unitsOf (roundMag n shift) : Int) * 2 ^ shift - n).natAbs ≤ (u * 2 ^ shift - n).natAbs ∧
    (u ≠ unitsOf (roundMag n shift) →
      ((unitsOf (roundMag n shift) : Int) * 2 ^ shift - n).natAbs = (u * 2 ^ shift - n).natAbs →
      roundMag n shift % 2 = 0) := by
  have heven : roundMag n shift % 2 = divTiesEven n (shift + roundExp n shift) % 2 := by
    rw [roundMag]
    omega
  have hscale (c : Int) : c * 2 ^ roundExp n shift * 2 ^ shift = c * 2 ^ (shift + roundExp n shift) := by
    rw [mul_assoc, ← pow_add, add_comm shift]
  rw [heven, unitsOf_roundMag]
  push_cast
  rw [hscale]
  by_cases hdvd : (2 : Int) ^ roundExp n shift ∣ u
  · obtain ⟨c, rfl⟩ := hdvd
    obtain ⟨hle, htie⟩ := divTiesEven_nearest n (shift + roundExp n shift) c
    rw [mul_comm _ c, hscale]
    exact ⟨hle, fun hne => htie fun hc => hne (by rw [hc])⟩
  · have hlt : u.natAbs < 2 ^ 52 * 2 ^ roundExp n shift := by
      rw [hu]
      refine (pow_dvd_unitsOf_or_lt (roundExp n shift) m).resolve_left fun h => hdvd ?_
      rw [← Int.natCast_dvd_natCast, ← hu, Int.dvd_natAbs] at h
      exact_mod_cast h
    have hexp : roundExp n shift ≠ 0 := by
      intro h
      exact hdvd (by rw [h, pow_zero]; exact one_dvd u)
    have hbase := pow_le_of_roundExp hexp
    have hnear := (divTiesEven_nearest n (shift + roundExp n shift) (2 ^ 52)).1
    have hfar : u * 2 ^ shift < 2 ^ 52 * 2 ^ (shift + roundExp n shift) := by
      rw [← hscale]
      exact mul_lt_mul_of_pos_right (Int.le_natAbs.trans_lt (by exact_mod_cast hlt)) (by positivity)
    have hbase' : (2 : Int) ^ 52 * 2 ^ (shift + roundExp n shift) ≤ n := by exact_mod_cast hbase
    omega

end Magnitude

/-! ### The operations -/

section Operations

variable {x y r : F64}

/-- The number of a sign and a magnitude. -/
def signed (neg : Bool) (n : Nat) : Int := if neg then -(n : Int) else n

theorem f64Int_eq (x : F64) : f64Int x = signed (f64Sign x) (unitsOf (f64Mag x)) := by
  rw [f64Int, f64Units_eq, signed]

theorem natAbs_signed (neg : Bool) (n : Nat) : (signed neg n).natAbs = n := by
  cases neg <;> simp [signed]

theorem signed_mul (a b : Bool) (m n : Nat) : signed a m * signed b n = signed (a != b) (m * n) := by
  cases a <;> cases b <;> simp [signed]

theorem f64Bit_eq (x : F64) : x.getLsbD 0 = decide (f64Mag x % 2 = 1) := by
  rw [BitVec.getLsbD, Nat.testBit_zero, f64Mag_eq, decide_eq_decide]
  omega

theorem f64Mag_round (neg : Bool) (n shift : Nat) :
    f64Mag (f64Round neg n shift) = min (roundMag n shift) f64InfMag := by
  rw [f64Round_eq, f64Mag_make neg ((min_le_right _ _).trans_lt f64InfMag_lt)]

theorem f64Sign_round (neg : Bool) (n shift : Nat) : f64Sign (f64Round neg n shift) = neg := by
  rw [f64Round_eq, f64Sign_make neg ((min_le_right _ _).trans_lt f64InfMag_lt)]

theorem f64Mag_round_of_finite {neg : Bool} {n shift : Nat} (h : f64IsFinite (f64Round neg n shift) = true) :
    f64Mag (f64Round neg n shift) = roundMag n shift := by
  rw [f64IsFinite_iff, f64Mag_round] at h
  rw [f64Mag_round]
  omega

/-- The distances from `e` in units of `2 ^ -(shift + 1074)` decide which datum is nearest. -/
theorem f64NearestEven_of_int {e : Int} (shift : Nat)
    (h : ∀ z, (f64Int r * 2 ^ shift - e).natAbs ≤ (f64Int z * 2 ^ shift - e).natAbs ∧
      (f64Int z ≠ f64Int r → (f64Int r * 2 ^ shift - e).natAbs = (f64Int z * 2 ^ shift - e).natAbs →
        r.getLsbD 0 = false)) :
    F64NearestEven r (e / (2 ^ shift * 2 ^ 1074)) := by
  intro z _
  obtain ⟨hle, htie⟩ := h z
  have hdist (v : F64) : |f64Value v - e / (2 ^ shift * 2 ^ 1074)| =
      ((f64Int v * 2 ^ shift - e).natAbs : ℝ) / (2 ^ shift * 2 ^ 1074) := by
    have hscale : f64Value v - e / (2 ^ shift * 2 ^ 1074) =
        ((f64Int v * 2 ^ shift - e : Int) : ℝ) / (2 ^ shift * 2 ^ 1074) := by
      have hpow : (2 : ℝ) ^ shift ≠ 0 := by positivity
      rw [f64Value, Int.cast_sub, Int.cast_mul, Int.cast_pow, Int.cast_ofNat, sub_div, mul_comm (2 ^ shift),
        mul_div_mul_right _ _ hpow]
    rw [hscale, abs_div, abs_of_pos (by positivity : (0 : ℝ) < 2 ^ shift * 2 ^ 1074), Nat.cast_natAbs, Int.cast_abs]
  rw [hdist, hdist]
  refine ⟨by gcongr, fun hne heq => htie (fun hint => hne (by rw [f64Value, f64Value, hint])) ?_⟩
  have hpos : (2 : ℝ) ^ shift * 2 ^ 1074 ≠ 0 := by positivity
  exact_mod_cast (div_left_inj' hpos).1 heq

/-- The rounding is to the nearest, ties to even, where it does not overflow. -/
theorem f64Round_nearest {neg : Bool} {n shift : Nat} (h : f64IsFinite (f64Round neg n shift) = true) :
    F64NearestEven (f64Round neg n shift) (signed neg n / (2 ^ shift * 2 ^ 1074)) := by
  apply f64NearestEven_of_int
  intro z
  rw [f64Bit_eq, f64Int_eq (f64Round neg n shift), f64Sign_round, f64Mag_round_of_finite h, decide_eq_false_iff_not]
  have hz : (f64Int z).natAbs = unitsOf (f64Mag z) := by rw [f64Int_eq, natAbs_signed]
  have hneg : (-f64Int z).natAbs = unitsOf (f64Mag z) := by rw [Int.natAbs_neg, hz]
  cases neg with
  | false =>
    obtain ⟨hle, htie⟩ := roundMag_nearest n shift hz
    exact ⟨hle, fun hne heq => by simpa using htie hne heq⟩
  | true =>
    obtain ⟨hle, htie⟩ := roundMag_nearest n shift hneg
    rw [neg_mul] at hle htie
    simp only [signed, if_true, neg_mul]
    exact ⟨by omega, fun hne heq => by simpa using htie (by omega) (by omega)⟩

theorem f64Add_of_finite (hx : f64IsFinite x = true) (hy : f64IsFinite y = true) :
    ∃ neg n, f64Add x y = f64Round neg n 0 ∧ f64Int x + f64Int y = signed neg n := by
  rw [f64Add, not_nan_of_finite hx, not_nan_of_finite hy, not_inf_of_finite hx, not_inf_of_finite hy]
  simp only [Bool.or_self, Bool.false_eq_true, if_false]
  split_ifs with hzero
  · exact ⟨f64Sign x && f64Sign y, 0, rfl, by rw [hzero]; cases f64Sign x && f64Sign y <;> rfl⟩
  · refine ⟨_, _, rfl, ?_⟩
    rw [signed]
    split_ifs with h <;> simp only [decide_eq_true_eq] at h <;> omega

theorem f64Int_neg (x : F64) : f64Int (f64Neg x) = -f64Int x := by
  rw [f64Int_eq, f64Int_eq, f64Mag_neg, f64Sign_neg]
  cases f64Sign x <;> simp [signed]

theorem f64Value_neg (x : F64) : f64Value (f64Neg x) = -f64Value x := by
  rw [f64Value, f64Value, f64Int_neg, Int.cast_neg, neg_div]

theorem f64Add_nearest (hx : f64IsFinite x = true) (hy : f64IsFinite y = true)
    (hfin : f64IsFinite (f64Add x y) = true) : F64NearestEven (f64Add x y) (f64Value x + f64Value y) := by
  obtain ⟨neg, n, hadd, hsum⟩ := f64Add_of_finite hx hy
  rw [hadd] at hfin ⊢
  have hround := f64Round_nearest hfin
  rwa [← hsum, pow_zero, one_mul, Int.cast_add, add_div] at hround

theorem f64Mul_nearest (hx : f64IsFinite x = true) (hy : f64IsFinite y = true)
    (hfin : f64IsFinite (f64Mul x y) = true) : F64NearestEven (f64Mul x y) (f64Value x * f64Value y) := by
  have hmul : f64Mul x y = f64Round (f64Sign x != f64Sign y) (f64Units x * f64Units y) 1074 := by
    rw [f64Mul, not_nan_of_finite hx, not_nan_of_finite hy, not_inf_of_finite hx, not_inf_of_finite hy]
    rfl
  rw [hmul] at hfin ⊢
  have hround := f64Round_nearest hfin
  rwa [← signed_mul, Int.cast_mul, mul_div_mul_comm] at hround

/-- Settles O42: each of the three is one rounding of the exact result. -/
theorem f64RoundsToNearest : Obligations.F64RoundsToNearest := by
  intro x y hx hy
  refine ⟨f64Add_nearest hx hy, fun hfin => ?_, f64Mul_nearest hx hy⟩
  have hsub := f64Add_nearest hx ((f64IsFinite_neg y).trans hy) hfin
  rwa [f64Value_neg, ← sub_eq_add_neg] at hsub

end Operations

end Sys2Proof.Machine
end
